-- ==== Sys2Proof/Word.lean ====
section
/-! DEFINITION. The unsigned word types of the CORE (00_scope.md R11: every value is an unsigned integer; bit 0 is the
least significant bit). -/

namespace Sys2Proof

/-- A byte (00_scope.md R13). -/
abbrev Byte := BitVec 8

/-- A register or command word, 32 bits (10_state.md section 4, 30_encoding.md R82). -/
abbrev Word := BitVec 32

/-- A 64-bit quantity: TIME, COUNTER, one clock sample (10_state.md R27, R28, R41). -/
abbrev DWord := BitVec 64

end Sys2Proof
end

