-- ==== Sys2Proof/Config.lean ====
section
/-! DEFINITION. What is fixed for one CORE and never changes while it runs (00_scope.md R6), and the free values of
93_implementation_defined.md U2, U3, U11: constants without a body, so that nothing can be proved about which value
they take. -/

namespace Sys2Proof

/-- The elaboration-time parameters of 00_scope.md R6, which the model takes as an argument
(93_implementation_defined.md U10, 92_eei_decisions.md D3): a machine carries its own in State (log 5). -/
structure Config.Params where
  /-- TIME_STEP (00_scope.md R7). -/
  timeStep    : Nat
  /-- DIGITS (00_scope.md R8). -/
  digits      : Nat
  /-- KEY_MAX_BYTES (00_scope.md R9). -/
  keyMaxBytes : Nat
  /-- ACC_WIDTH (00_scope.md R10). -/
  accWidth    : Nat
  deriving DecidableEq, Repr

/-- The legal elaborations: each parameter in its range of 00_scope.md R6. -/
def Config.Params.legal (p : Config.Params) : Bool :=
  decide (1 ≤ p.timeStep ∧ p.timeStep ≤ 2 ^ 32 - 1 ∧ 1 ≤ p.digits ∧ p.digits ≤ 10 ∧
    p.keyMaxBytes % 4 = 0 ∧ 68 ≤ p.keyMaxBytes ∧ p.keyMaxBytes ≤ 3840 ∧ 40 ≤ p.accWidth)

/-- The values "in this hardware" of 00_scope.md R6 (R7-R10). -/
def Config.hardware : Config.Params :=
  { timeStep := 30, digits := 6, keyMaxBytes := 256, accWidth := 40 }

/-- FREE VALUE: what the clock input port answers at the `n`-th draw, when no sample is listed in State
(10_state.md R41, 93_implementation_defined.md U3; log 2). -/
opaque Config.clockDraw : Nat → Option DWord

/-- FREE VALUE: bits [31:1] of a STATUS read while BUSY at the `n`-th draw (10_state.md R48, U2; log 3). -/
opaque Config.statusDraw : Nat → BitVec 31

/-- FREE VALUE: where the platform puts the aperture in the host's address map (20_memory.md R62, U11; log 12). -/
opaque Config.coreBase : Nat

end Sys2Proof
end

