-- ==== Sys2Proof/Syntax.lean ====
section
/-! DEFINITION. The commands of spec/opcode_table.json, one constructor a row; the raw fields of a command word; the
host-visible registers; and the host's assembly operations (30_encoding.md R82-R90). -/

namespace Sys2Proof

/-- The 14 commands of 30_encoding.md R85. IMM8 is a byte (R84) and only two commands take it. -/
inductive Instr where
  | nop
  | sreset
  | b32Start
  | b32Char (imm : Byte)
  | b32End
  | keyClear
  | keyByte (imm : Byte)
  | timeNow
  | div
  | remainNow
  | hmac
  | trunc
  | genAt
  | genNow
  deriving DecidableEq, Repr

/-- The one command format (30_encoding.md R82): OP [31:24], RSVD [23:8], IMM8 [7:0]. -/
structure RawCmd where
  op   : Byte
  rsvd : BitVec 16
  imm8 : Byte
  deriving DecidableEq, Repr

/-- Why a command word is illegal (30_encoding.md R87). -/
inductive Illegal where
  /-- OP is in no row of 30_encoding.md R85. -/
  | unassignedOp
  /-- RSVD is not 0 (30_encoding.md R83). -/
  | reservedBits
  /-- IMM8 is not 0 on a command without an operand (30_encoding.md R84). -/
  | strayOperand
  deriving DecidableEq, Repr

/-- The host-visible registers (10_state.md R43-R59); `k` numbers the words of an array. -/
inductive Reg where
  | id
  | cfgTimeStep
  | cfgDigits
  | cfgKeyMax
  | cmd
  | status
  | b32State
  | keyLen
  | timeLo
  | timeHi
  | counterLo
  | counterHi
  | remaining
  | offset
  | code32
  | otp
  | codeStr (k : Nat)
  | digest (k : Nat)
  | key (k : Nat)
  deriving DecidableEq, Repr

/-- Where `rd` and `wr` of the host assembly point: a register name, or a raw offset `@0xHHH` (30_encoding.md R89). -/
inductive AsmPlace where
  | name (r : Reg)
  | raw (off : Nat)
  deriving DecidableEq, Repr

/-- One operation of a host program (30_encoding.md R89) or a pseudo-instruction (R90). Immediates are the numbers as
written; a string literal is its list of character codes. -/
inductive AsmOp where
  | rd (p : AsmPlace)
  | wr (p : AsmPlace) (imm32 : Nat)
  | nop
  | sreset
  | b32Start
  | b32Char (imm8 : Nat)
  | b32End
  | keyClear
  | keyByte (imm8 : Nat)
  | timeNow
  | div
  | remainNow
  | hmac
  | trunc
  | genAt
  | genNow
  | b32Str (s : List Nat)
  | keyStr (s : List Nat)
  | timeSet (t : Nat)
  | sync
  | genAtTime (t : Nat)
  deriving DecidableEq, Repr

end Sys2Proof
end

