-- ==== Sys2Proof/WellFormed.lean ====
section
/-! DEFINITION. Which command words and which host assembly operations are well formed (30_encoding.md R83-R87, R89,
R90). An `Instr` needs no check of its own: its operand is a byte. -/

namespace Sys2Proof

/-- The assigned opcodes, in the order of 30_encoding.md R86. -/
def assignedOps : List Byte :=
  [0x00, 0x01, 0x10, 0x11, 0x12, 0x18, 0x19, 0x20, 0x21, 0x22, 0x30, 0x38, 0x40, 0x41]

/-- The opcodes that take IMM8: B32_CHAR and KEY_BYTE (30_encoding.md R84). -/
def operandOps : List Byte := [0x11, 0x19]

/-- OP is assigned (30_encoding.md R85). -/
def RawCmd.opAssigned (r : RawCmd) : Bool := assignedOps.contains r.op

/-- RSVD is 0x0000 (30_encoding.md R83). -/
def RawCmd.rsvdZero (r : RawCmd) : Bool := r.rsvd == 0

/-- IMM8 is 0 unless the command takes an operand (30_encoding.md R84). -/
def RawCmd.immAllowed (r : RawCmd) : Bool := operandOps.contains r.op || r.imm8 == 0

/-- A legal command word (30_encoding.md R86, R87). -/
def RawCmd.wellFormed (r : RawCmd) : Bool := r.opAssigned && r.rsvdZero && r.immAllowed

/-- A register NAME of 20_memory.md R73: array words only as many as there are (10_state.md R57-R59). -/
def Reg.wellFormed (p : Config.Params) : Reg → Bool
  | .codeStr k => decide (k < 3)
  | .digest k => decide (k < 5)
  | .key k => decide (k < p.keyMaxBytes / 4)
  | .id | .cfgTimeStep | .cfgDigits | .cfgKeyMax | .cmd | .status | .b32State | .keyLen | .timeLo | .timeHi
  | .counterLo | .counterHi | .remaining | .offset | .code32 | .otp => true

/-- A raw offset `@0xHHH` is a byte offset 0..4095 (20_memory.md R62, 30_encoding.md R89). -/
def AsmPlace.wellFormed (p : Config.Params) : AsmPlace → Bool
  | .name r => r.wellFormed p
  | .raw off => decide (off < 4096)

/-- A string literal holds ASCII codes only (30_encoding.md R90). -/
def asciiOnly (s : List Nat) : Bool := s.all fun c => decide (c < 0x80)

/-- What an assembler accepts (30_encoding.md R89: an `imm8` in 0..255, an `imm32` in 0..2^32-1; R90: a 64-bit `t`,
ASCII strings). -/
def AsmOp.wellFormed (p : Config.Params) : AsmOp → Bool
  | .rd place => place.wellFormed p
  | .wr place imm32 => place.wellFormed p && decide (imm32 < 2 ^ 32)
  | .b32Char imm8 | .keyByte imm8 => decide (imm8 < 256)
  | .b32Str s | .keyStr s => asciiOnly s
  | .timeSet t | .genAtTime t => decide (t < 2 ^ 64)
  | .nop | .sreset | .b32Start | .b32End | .keyClear | .timeNow | .div | .remainNow | .hmac | .trunc | .genAt
  | .genNow | .sync => true

end Sys2Proof
end

