-- ==== Sys2Proof/Decode.lean ====
section
/-! DEFINITION. The decoder of 30_encoding.md R86, total on every 32-bit word and rejecting by name, and the encoder
written from the opcode map R85. -/

namespace Sys2Proof

/-- OP, bits [31:24] (30_encoding.md R82). -/
def opField (w : Word) : Byte := w.extractLsb' 24 8

/-- RSVD, bits [23:8] (30_encoding.md R82). -/
def rsvdField (w : Word) : BitVec 16 := w.extractLsb' 8 16

/-- IMM8, bits [7:0] (30_encoding.md R82). -/
def immField (w : Word) : Byte := w.extractLsb' 0 8

/-- The fields of a command word. -/
def RawCmd.ofWord (w : Word) : RawCmd := { op := opField w, rsvd := rsvdField w, imm8 := immField w }

/-- The word of the fields `{OP, RSVD, IMM8}`. -/
def RawCmd.toWord (r : RawCmd) : Word := r.op ++ r.rsvd ++ r.imm8

/-- The opcode map 30_encoding.md R85: the command an OP selects, given its IMM8. -/
def selectOp (op imm : Byte) : Option Instr :=
  match op.toNat with
  | 0x00 => some .nop
  | 0x01 => some .sreset
  | 0x10 => some .b32Start
  | 0x11 => some (.b32Char imm)
  | 0x12 => some .b32End
  | 0x18 => some .keyClear
  | 0x19 => some (.keyByte imm)
  | 0x20 => some .timeNow
  | 0x21 => some .div
  | 0x22 => some .remainNow
  | 0x30 => some .hmac
  | 0x38 => some .trunc
  | 0x40 => some .genAt
  | 0x41 => some .genNow
  | _ => none

/-- Whether the command of an OP takes IMM8 (30_encoding.md R84, R86: op in {0x11, 0x19}). -/
def takesOperand (op : Byte) : Bool := op == 0x11 || op == 0x19

/-- The tests of `Execute` before its dispatch, in the order of 30_encoding.md R86. -/
def decode (w : Word) : Except Illegal Instr :=
  match selectOp (opField w) (immField w) with
  | none => .error .unassignedOp
  | some i =>
    if rsvdField w ≠ 0 then .error .reservedBits
    else if takesOperand (opField w) = false ∧ immField w ≠ 0 then .error .strayOperand
    else .ok i

/-- The OP of a command (30_encoding.md R85). -/
def opcodeOf : Instr → Byte
  | .nop => 0x00
  | .sreset => 0x01
  | .b32Start => 0x10
  | .b32Char _ => 0x11
  | .b32End => 0x12
  | .keyClear => 0x18
  | .keyByte _ => 0x19
  | .timeNow => 0x20
  | .div => 0x21
  | .remainNow => 0x22
  | .hmac => 0x30
  | .trunc => 0x38
  | .genAt => 0x40
  | .genNow => 0x41

/-- The IMM8 of a command: its operand, or 0x00 (30_encoding.md R84). -/
def operandOf : Instr → Byte
  | .b32Char imm => imm
  | .keyByte imm => imm
  | .nop | .sreset | .b32Start | .b32End | .keyClear | .timeNow | .div | .remainNow | .hmac | .trunc | .genAt
  | .genNow => 0x00

/-- A command's word, `{OP, 0x0000, IMM8}` (30_encoding.md R85). -/
def encode (i : Instr) : Word := RawCmd.toWord { op := opcodeOf i, rsvd := 0, imm8 := operandOf i }

/-- The command word whose bits are `w`, `nbits` of them given and those above 0. A command is one 32-bit word and the
table's bit 0 is the word's bit 0 (30_encoding.md R82, R88; log 9). -/
def tableWord (nbits w : Nat) : Word := BitVec.ofNat 32 (w % 2 ^ nbits)

/-- What the decoder reads from a row of spec/opcode_table.json: nothing where the word is illegal, or where the row
would be longer than a command is. -/
def decodeTableWord (nbits w : Nat) : Option Instr :=
  if nbits ≤ 32 then
    match decode (tableWord nbits w) with
    | .ok i => some i
    | .error _ => none
  else none

end Sys2Proof
end

