-- ==== Sys2Proof/Machine/State.lean ====
section
/-! DEFINITION. The state of the CORE as plain data: one field per rule R20-R39 of 10_state.md (R17), then the bus port
and the external inputs, which are the model's own fields; the reasons a step can stop; and the state after reset. -/

namespace Sys2Proof.Machine

/-- ERRCODE values (10_state.md R38, 60_exceptions.md R126). The codes 7-15 are never written and have no constructor
(U6; log 13). -/
inductive ErrCode where
  | ok
  | invalidCharacter
  | clockError
  | illegalCmd
  | keyOverflow
  | noKey
  | sequence
  deriving DecidableEq, Repr

/-- B32_MODE (10_state.md R22). The encoding 3 never occurs and has no constructor (U7; log 13). -/
inductive B32Mode where
  | idle
  | active
  | failed
  deriving DecidableEq, Repr

/-- One transaction of the host bus port (20_memory.md R63): the byte offset and the width in bytes the host asks for.
Only width 4 is ever legal (R66), so a write carries 32 bits of data whatever its width (log 15). -/
inductive BusReq where
  | read (addr : BitVec 12) (width : Nat)
  | write (addr : BitVec 12) (width : Nat) (v : Word)
  deriving DecidableEq, Repr

/-- The two responses of the bus (20_memory.md R63). -/
inductive RespCode where
  | okay
  | slverr
  deriving DecidableEq, Repr

/-- How a transaction completed: a read brings data, a write does not (20_memory.md R63). -/
inductive BusResp where
  | read (code : RespCode) (data : Word)
  | write (code : RespCode)
  deriving DecidableEq, Repr

/-- One move of the environment, or a turn it leaves to the CORE (DESIGN CHOICE, log 1). -/
inductive Event where
  /-- The host issues a bus access (20_memory.md R76). -/
  | access (r : BusReq)
  /-- The line `rst` is asserted or released (70_reset_and_hazards.md R143, R144; log 8). -/
  | rst (asserted : Bool)
  /-- Nothing comes from outside now: the CORE side moves (20_memory.md R74). -/
  | coreTurn
  deriving DecidableEq, Repr

/-- The machine. First the parameters it was elaborated with, which no step writes (00_scope.md R6; log 5); then twenty
fields of architectural state (10_state.md R17); the last six are the model's. -/
structure State where
  /-- TIME_STEP, DIGITS, KEY_MAX_BYTES, ACC_WIDTH (00_scope.md R6). -/
  params       : Config.Params
  /-- ACC, the bit buffer of ACC_WIDTH bits, as the number they hold (10_state.md R20, 00_scope.md R10). -/
  acc          : Nat
  /-- BITCNT (10_state.md R21). -/
  bitcnt       : BitVec 4
  /-- B32_MODE (10_state.md R22). -/
  b32Mode      : B32Mode
  /-- B32_FAIL; `ok` is the value 0, no failure (10_state.md R23). -/
  b32Fail      : ErrCode
  /-- KEY[0..KEY_MAX_BYTES), KEY_MAX_BYTES bytes (10_state.md R24). -/
  key          : List Byte
  /-- KEYLEN (10_state.md R25). -/
  keyLen       : Nat
  /-- KEY_VALID (10_state.md R26). -/
  keyValid     : Bool
  /-- TIME (10_state.md R27). -/
  time         : DWord
  /-- COUNTER (10_state.md R28). -/
  counter      : DWord
  /-- REMAINING (10_state.md R29). -/
  remaining    : Word
  /-- COUNTER_VALID (10_state.md R30). -/
  counterValid : Bool
  /-- DIGEST[0..20) (10_state.md R31). -/
  digest       : Vector Byte 20
  /-- DIGEST_VALID (10_state.md R32). -/
  digestValid  : Bool
  /-- OFFSET (10_state.md R33). -/
  offset       : BitVec 4
  /-- CODE32 (10_state.md R34). -/
  code32       : Word
  /-- OTP (10_state.md R35). -/
  otp          : Word
  /-- CODE_STR[0..12) (10_state.md R36). -/
  codeStr      : Vector Byte 12
  /-- CODE_VALID (10_state.md R37). -/
  codeValid    : Bool
  /-- ERRCODE (10_state.md R38). -/
  errcode      : ErrCode
  /-- PENDING (10_state.md R39). -/
  pending      : Option Word
  /-- The access that waits under the bus hold (20_memory.md R75, R76; log 7). -/
  outstanding  : Option BusReq
  /-- The response of the last completed transaction (20_memory.md R63; log 6). -/
  busResp      : Option BusResp
  /-- The level of the reset input (70_reset_and_hazards.md R143, R144; log 8). -/
  rstIn        : Bool
  /-- The environment's moves still to come, the next one first (log 1). -/
  inbox        : List Event
  /-- The samples the clock source supplies next, in order (10_state.md R41; log 2). -/
  clockIn      : List (Option DWord)
  /-- The index of the next free value to be drawn (log 4). -/
  draws        : Nat
  deriving DecidableEq, Repr

/-- Reasons the machine stops with a fault: none. No error stops the CORE (60_exceptions.md R134; part 1 of
93_implementation_defined.md uses no stuck state). Errors of commands are values of ERRCODE, bus errors are responses. -/
inductive Fault where
  deriving DecidableEq, Repr

/-- Reasons an instruction has no meaning. -/
inductive Refusal where
  /-- An arm of `exec` whose instruction has no meaning yet; safe. No arm answers it: all 14 commands are modelled. -/
  | notModelled (mnemonic : String)
  deriving DecidableEq, Repr

/-- A machine elaborated with the parameters `p`, right after a reset (10_state.md R61): `rst` released, nothing in flight
on the bus, and nothing listed of what the environment will do (logs 1, 2, 4, 6). -/
def State.resetOf (p : Config.Params) : State where
  params := p
  acc := 0
  bitcnt := 0
  b32Mode := .idle
  b32Fail := .ok
  key := List.replicate p.keyMaxBytes 0
  keyLen := 0
  keyValid := false
  time := 0
  counter := 0
  remaining := 0
  counterValid := false
  digest := Vector.replicate 20 0
  digestValid := false
  offset := 0
  code32 := 0
  otp := 0
  codeStr := Vector.replicate 12 0
  codeValid := false
  errcode := .ok
  pending := none
  outstanding := none
  busResp := none
  rstIn := false
  inbox := []
  clockIn := []
  draws := 0

/-- This hardware right after a reset, elaborated with the values of 00_scope.md R6. -/
def State.reset : State := State.resetOf Config.hardware

end Sys2Proof.Machine
end

