-- ==== Sys2Proof/Machine/Operands.lean ====
section
/-! DEFINITION. Operand forms and byte orders: the character operand of B32_CHAR (41_base32_decoder.md R94-R96), the
big-endian encodings of the algorithms (00_scope.md R14, 20_memory.md R70) and the little-endian lanes of the bus
(20_memory.md R68, R69). -/

namespace Sys2Proof.Machine

/-- The padding byte `'='` (41_base32_decoder.md R96). -/
def padByte : Byte := 0x3D

/-- `Fold(c)`: ASCII lower case to upper case, every other byte unchanged (41_base32_decoder.md R95). -/
def fold (c : Byte) : Byte :=
  if 0x61 ≤ c.toNat ∧ c.toNat ≤ 0x7A then c - 0x20 else c

/-- `B32Value(u)`: the 5-bit value of a normalised byte, or none (41_base32_decoder.md R94). -/
def b32Value (u : Byte) : Option (BitVec 5) :=
  if 0x41 ≤ u.toNat ∧ u.toNat ≤ 0x5A then some (BitVec.ofNat 5 (u.toNat - 0x41))
  else if 0x32 ≤ u.toNat ∧ u.toNat ≤ 0x37 then some (BitVec.ofNat 5 (u.toNat - 0x32 + 26))
  else none

/-- `be32(x)`: most significant byte first (00_scope.md R14). -/
def be32 (x : Word) : List Byte :=
  [x.extractLsb' 24 8, x.extractLsb' 16 8, x.extractLsb' 8 8, x.extractLsb' 0 8]

/-- `be64(x)`: byte `i` is `x[63-8i : 56-8i]` (00_scope.md R14). -/
def be64 (x : DWord) : List Byte :=
  [x.extractLsb' 56 8, x.extractLsb' 48 8, x.extractLsb' 40 8, x.extractLsb' 32 8,
   x.extractLsb' 24 8, x.extractLsb' 16 8, x.extractLsb' 8 8, x.extractLsb' 0 8]

/-- A 32-bit word from four bytes, the first the most significant (42_hmac_sha1_engine.md R107, 43_totp_truncator.md
R115). -/
def beWord (b0 b1 b2 b3 : Byte) : Word := b0 ++ b1 ++ b2 ++ b3

/-- Byte `i` of a byte array; 0 beyond its end, which no rule reads. -/
def byteAt {n : Nat} (v : Vector Byte n) (i : Nat) : Byte := v.toList.getD i 0

/-- Word `k` of a byte array on the bus: bits `[8j+7 : 8j]` are byte `4k+j` (20_memory.md R68, R69). -/
def lanesWord (bs : List Byte) (k : Nat) : Word :=
  bs.getD (4 * k + 3) 0 ++ bs.getD (4 * k + 2) 0 ++ bs.getD (4 * k + 1) 0 ++ bs.getD (4 * k) 0

/-- Byte lane `j` of a register value (20_memory.md R68). -/
def laneByte (v : Word) (j : Nat) : Byte := v.extractLsb' (8 * j) 8

/-- The low half of a 64-bit quantity, at the lower offset (20_memory.md R69). -/
def loWord (x : DWord) : Word := x.extractLsb' 0 32

/-- The high half of a 64-bit quantity. -/
def hiWord (x : DWord) : Word := x.extractLsb' 32 32

/-- `{hi, lo}` (10_state.md R51). -/
def joinWords (hi lo : Word) : DWord := hi ++ lo

end Sys2Proof.Machine
end

