-- ==== Sys2Proof/Machine/Flags.lean ====
section
/-! DEFINITION. The STATUS and B32_STATE views, the numeric codes of the error and mode fields, and the validity flags
that fall together (10_state.md R30, R32, R37, R48, R49; 60_exceptions.md R126). -/

namespace Sys2Proof.Machine

/-- The number of an ERRCODE value (60_exceptions.md R126). -/
def ErrCode.code : ErrCode → BitVec 4
  | .ok => 0
  | .invalidCharacter => 1
  | .clockError => 2
  | .illegalCmd => 3
  | .keyOverflow => 4
  | .noKey => 5
  | .sequence => 6

/-- The number of a B32_MODE value (10_state.md R22). -/
def B32Mode.code : B32Mode → BitVec 2
  | .idle => 0
  | .active => 1
  | .failed => 2

/-- BUSY, defined as PENDING ≠ none (10_state.md R39). -/
def busy (s : State) : Bool := s.pending.isSome

/-- The fields of STATUS put together, with BUSY = 0 (10_state.md R48). -/
def statusFields (err : BitVec 4) (mode : BitVec 2) (code digest counter key : Bool) : Word :=
  0#20 ++ err ++ 0#1 ++ mode ++ BitVec.ofBool code ++ BitVec.ofBool digest ++ BitVec.ofBool counter ++
    BitVec.ofBool key ++ 0#1

/-- STATUS read with BUSY = 0: every field is the state it names (10_state.md R48). -/
def statusExact (s : State) : Word :=
  statusFields s.errcode.code s.b32Mode.code s.codeValid s.digestValid s.counterValid s.keyValid

/-- STATUS read with BUSY = 1: bit 0 is 1, the other bits are the given free value (10_state.md R48,
70_reset_and_hazards.md R151; log 3). -/
def statusBusy (free : BitVec 31) : Word := free ++ 1#1

/-- RESID, `ACC mod 2^BITCNT` in the seven bits [14:8] (10_state.md R49). -/
def resid (s : State) : BitVec 7 := BitVec.ofNat 7 (s.acc % 2 ^ s.bitcnt.toNat)

/-- B32_STATE (10_state.md R49). -/
def b32StateWord (s : State) : Word :=
  0#12 ++ s.b32Fail.code ++ 0#1 ++ resid s ++ 0#4 ++ s.bitcnt

/-- What every change of the key clears (10_state.md R32, R37). -/
def clearDigest (s : State) : State := { s with digestValid := false, codeValid := false }

/-- What every change of TIME clears (10_state.md R30, R32, R37, R51). -/
def clearCounter (s : State) : State :=
  { s with counterValid := false, digestValid := false, codeValid := false }

end Sys2Proof.Machine
end

