-- ==== Sys2Proof/Machine/Ops.lean ====
section
/-! DEFINITION. The operations the commands share: ending a command with or without an error (00_scope.md R15), the
clock sample (10_state.md R41), the key buffer (10_state.md R24, R25) and the two resets (40_control.md R93,
70_reset_and_hazards.md R144). -/

namespace Sys2Proof.Machine

/-- `finish()`: the command ends with ERRCODE <- OK (00_scope.md R15). -/
def finish (s : State) : State := { s with errcode := .ok }

/-- `raise Err(e)`: the ONE way an error is taken. It sets ERRCODE and writes nothing else: no trap, no saved state, no
vector, no mode change, and so no return from it (00_scope.md R15, 60_exceptions.md R134, R135). -/
def raiseErr (e : ErrCode) (s : State) : State := { s with errcode := e }

/-- `sample_clock()`: one draw from the clock input port (10_state.md R41). The next listed sample, if the environment
lists one, else a fresh free value (log 2). -/
def sampleClock (s : State) : Option DWord × State :=
  match s.clockIn with
  | v :: rest => (v, { s with clockIn := rest })
  | [] => (Config.clockDraw s.draws, { s with draws := s.draws + 1 })

/-- `KEY[0..KEY_MAX_BYTES) <- all 0; KEYLEN <- 0` (10_state.md R24, R25). -/
def zeroizeKey (s : State) : State :=
  { s with key := List.replicate s.params.keyMaxBytes 0, keyLen := 0 }

/-- KEYLEN = KEY_MAX_BYTES (41_base32_decoder.md R99, R103). -/
def keyFull (s : State) : Bool := s.keyLen == s.params.keyMaxBytes

/-- `KEY[KEYLEN] <- b; KEYLEN <- KEYLEN + 1` (41_base32_decoder.md R99, R103). -/
def appendKey (b : Byte) (s : State) : State :=
  { s with key := s.key.set s.keyLen b, keyLen := s.keyLen + 1 }

/-- The key material, KEY[0..KEYLEN) (10_state.md R24). -/
def keyBytes (s : State) : List Byte := s.key.take s.keyLen

/-- Every element of 10_state.md R20-R38 takes its value in R61; the parameters, PENDING and what lies outside the CORE
stay (40_control.md R93). -/
def resetElements (s : State) : State :=
  { State.resetOf s.params with
    pending := s.pending, outstanding := s.outstanding, busResp := s.busResp, rstIn := s.rstIn,
    inbox := s.inbox, clockIn := s.clockIn, draws := s.draws }

/-- How a transaction completes with a bus error: no data for a write, data 0 for a read (20_memory.md R63). -/
def slverrFor : BusReq → BusResp
  | .read _ _ => .read .slverr 0
  | .write _ _ _ => .write .slverr

/-- An outstanding access completes with SLVERR and no effect (70_reset_and_hazards.md R144). -/
def abortOutstanding (s : State) : State :=
  match s.outstanding with
  | some r => { s with outstanding := none, busResp := some (slverrFor r) }
  | none => s

/-- A level on the reset input (70_reset_and_hazards.md R143, R144). Asserted: every element takes its reset value, a
pending command is discarded, an outstanding access is aborted. Released: the state stays as it is (log 8). -/
def driveRst (asserted : Bool) (s : State) : State :=
  if asserted then abortOutstanding { resetElements s with pending := none, rstIn := true }
  else { s with rstIn := false }

/-- Where a host address falls in the aperture, whose base CORE_BASE the platform chooses; an access elsewhere never
reaches the CORE (20_memory.md R62; log 12). -/
def apertureOffset (hostAddr : Nat) : Option (BitVec 12) :=
  if Config.coreBase ≤ hostAddr ∧ hostAddr < Config.coreBase + 4096 then
    some (BitVec.ofNat 12 (hostAddr - Config.coreBase))
  else none

end Sys2Proof.Machine
end

