-- ==== Sys2Proof/Machine/Bus.lean ====
section
/-! DEFINITION. The register aperture and the host's two access primitives (10_state.md R43-R60, 20_memory.md R62-R75). -/

namespace Sys2Proof.Machine

/-- Which directions a register allows (10_state.md section 4). -/
inductive AccessCode where
  | ro
  | wo
  | rw
  deriving DecidableEq, Repr

/-- The register at a 32-bit-aligned byte offset below the KEY window; none at a reserved offset (20_memory.md R73,
10_state.md R60). -/
def fixedReg (off : Nat) : Option Reg :=
  match off with
  | 0x000 => some .id
  | 0x004 => some .cfgTimeStep
  | 0x008 => some .cfgDigits
  | 0x00C => some .cfgKeyMax
  | 0x010 => some .cmd
  | 0x014 => some .status
  | 0x018 => some .b32State
  | 0x01C => some .keyLen
  | 0x020 => some .timeLo
  | 0x024 => some .timeHi
  | 0x028 => some .counterLo
  | 0x02C => some .counterHi
  | 0x030 => some .remaining
  | 0x034 => some .offset
  | 0x038 => some .code32
  | 0x03C => some .otp
  | _ =>
    if 0x040 ≤ off ∧ off ≤ 0x048 then some (.codeStr ((off - 0x040) / 4))
    else if 0x050 ≤ off ∧ off ≤ 0x060 then some (.digest ((off - 0x050) / 4))
    else none

/-- The register at a 32-bit-aligned byte offset; none at a reserved offset. The KEY window reaches as far as KEY_MAX_BYTES
(20_memory.md R73, 10_state.md R59, R60). -/
def regAt (p : Config.Params) (off : Nat) : Option Reg :=
  if off < 0x100 then fixedReg off
  else if off < 0x100 + p.keyMaxBytes then some (.key ((off - 0x100) / 4))
  else none

/-- The byte offset of a register NAME (20_memory.md R73). -/
def regOff : Reg → Nat
  | .id => 0x000
  | .cfgTimeStep => 0x004
  | .cfgDigits => 0x008
  | .cfgKeyMax => 0x00C
  | .cmd => 0x010
  | .status => 0x014
  | .b32State => 0x018
  | .keyLen => 0x01C
  | .timeLo => 0x020
  | .timeHi => 0x024
  | .counterLo => 0x028
  | .counterHi => 0x02C
  | .remaining => 0x030
  | .offset => 0x034
  | .code32 => 0x038
  | .otp => 0x03C
  | .codeStr k => 0x040 + 4 * k
  | .digest k => 0x050 + 4 * k
  | .key k => 0x100 + 4 * k

/-- The access code of a register (20_memory.md R73). -/
def regAccess : Reg → AccessCode
  | .cmd => .wo
  | .timeLo | .timeHi => .rw
  | .id | .cfgTimeStep | .cfgDigits | .cfgKeyMax | .status | .b32State | .keyLen | .counterLo | .counterHi
  | .remaining | .offset | .code32 | .otp | .codeStr _ | .digest _ | .key _ => .ro

/-- Whether a register is subject to the bus hold: all but ID, the CFG registers and STATUS (10_state.md section 4,
20_memory.md R73, R75). -/
def regHeld : Reg → Bool
  | .id | .cfgTimeStep | .cfgDigits | .cfgKeyMax | .status => false
  | .cmd | .b32State | .keyLen | .timeLo | .timeHi | .counterLo | .counterHi | .remaining | .offset | .code32
  | .otp | .codeStr _ | .digest _ | .key _ => true

/-- The register of a 32-bit aligned access, legal or not in its direction (20_memory.md R66, R67). -/
def alignedReg (p : Config.Params) (addr : BitVec 12) (width : Nat) : Option Reg :=
  if width = 4 ∧ addr.toNat % 4 = 0 then regAt p addr.toNat else none

/-- The register of a legal read: RO or RW (20_memory.md R67). -/
def readableReg (p : Config.Params) (addr : BitVec 12) (width : Nat) : Option Reg :=
  match alignedReg p addr width with
  | some r => if regAccess r = .wo then none else some r
  | none => none

/-- The register of a legal write: WO or RW (20_memory.md R67). -/
def writableReg (p : Config.Params) (addr : BitVec 12) (width : Nat) : Option Reg :=
  match alignedReg p addr width with
  | some r => if regAccess r = .ro then none else some r
  | none => none

/-- A word of the KEY window: zero unless KEY_VALID (10_state.md R59). -/
def keyWindowWord (k : Nat) (s : State) : Word := if s.keyValid then lanesWord s.key k else 0

/-- The read value of a register in the present state, STATUS taken as it reads with BUSY = 0 (10_state.md R43-R59). CMD
has no stored value and is never read (R47). -/
def regValue (s : State) : Reg → Word
  | .id => 0x50544F54
  | .cfgTimeStep => BitVec.ofNat 32 s.params.timeStep
  | .cfgDigits => BitVec.ofNat 32 s.params.digits
  | .cfgKeyMax => BitVec.ofNat 32 s.params.keyMaxBytes
  | .cmd => 0
  | .status => statusExact s
  | .b32State => b32StateWord s
  | .keyLen => BitVec.ofNat 32 s.keyLen
  | .timeLo => loWord s.time
  | .timeHi => hiWord s.time
  | .counterLo => loWord s.counter
  | .counterHi => hiWord s.counter
  | .remaining => s.remaining
  | .offset => s.offset.setWidth 32
  | .code32 => s.code32
  | .otp => s.otp
  | .codeStr k => lanesWord s.codeStr.toList k
  | .digest k => lanesWord s.digest.toList k
  | .key k => keyWindowWord k s

/-- A register read that completes with OKAY (20_memory.md R64). It changes no state of the CORE; a STATUS read while
BUSY draws one free value (10_state.md R48, 70_reset_and_hazards.md R151; log 3). -/
def readReg (r : Reg) (s : State) : Word × State :=
  if r = .status ∧ busy s = true then (statusBusy (Config.statusDraw s.draws), { s with draws := s.draws + 1 })
  else (regValue s r, s)

/-- The write effect of a register (20_memory.md R65): CMD sets PENDING (10_state.md R47), TIME_LO and TIME_HI write
their half of TIME and invalidate (R51). No other register is writable. -/
def writeReg (r : Reg) (v : Word) (s : State) : State :=
  match r with
  | .cmd => { s with pending := some v }
  | .timeLo => clearCounter { s with time := joinWords (hiWord s.time) v }
  | .timeHi => clearCounter { s with time := joinWords v (loWord s.time) }
  | .id | .cfgTimeStep | .cfgDigits | .cfgKeyMax | .status | .b32State | .keyLen | .counterLo | .counterHi
  | .remaining | .offset | .code32 | .otp | .codeStr _ | .digest _ | .key _ => s

/-- `MemRead(addr, width)` (20_memory.md R64): none where the access waits under the hold (R75). -/
def memRead (addr : BitVec 12) (width : Nat) (s : State) : Option (BusResp × State) :=
  match readableReg s.params addr width with
  | none => some (.read .slverr 0, s)
  | some r =>
    if regHeld r = true ∧ busy s = true then none
    else some (.read .okay (readReg r s).1, (readReg r s).2)

/-- `MemWrite(addr, width, v)` (20_memory.md R65): none where the access waits under the hold (R75). -/
def memWrite (addr : BitVec 12) (width : Nat) (v : Word) (s : State) : Option (BusResp × State) :=
  match writableReg s.params addr width with
  | none => some (.write .slverr, s)
  | some r =>
    if regHeld r = true ∧ busy s = true then none
    else some (.write .okay, writeReg r v s)

/-- One access of the host: its response and the state after it, or none while it waits. -/
def attempt (r : BusReq) (s : State) : Option (BusResp × State) :=
  match r with
  | .read addr width => memRead addr width s
  | .write addr width v => memWrite addr width v s

/-- The host issues an access, with none outstanding (20_memory.md R75, R76). While `rst` is asserted it gets SLVERR
(70_reset_and_hazards.md R144); under the hold it becomes the outstanding access. -/
def issueAccess (r : BusReq) (s : State) : State :=
  if s.rstIn then { s with busResp := some (slverrFor r) }
  else
    match attempt r s with
    | none => { s with outstanding := some r }
    | some (resp, t) => { t with busResp := some resp }

/-- The outstanding access is performed once the hold is lifted (20_memory.md R75). -/
def completeOutstanding (r : BusReq) (s : State) : State :=
  match attempt r s with
  | none => s
  | some (resp, t) => { t with outstanding := none, busResp := some resp }

/-- Byte `a` of the aperture, in the one little-endian image of 20_memory.md R69; none where no readable register lies. -/
def apertureByte (a : Nat) (s : State) : Option Byte :=
  match regAt s.params (a / 4 * 4) with
  | none => none
  | some r => if regAccess r = .wo then none else some (laneByte (regValue s r) (a % 4))

end Sys2Proof.Machine
end

