-- ==== Sys2Proof/Machine/Base32.lean ====
section
/-! DEFINITION. The base32_decoder: the accumulator step, the failure procedure and the session commands
(41_base32_decoder.md R97-R101). -/

namespace Sys2Proof.Machine

/-- What one accumulator step yields (41_base32_decoder.md R97). -/
structure Accumulated where
  acc    : Nat
  bitcnt : Nat
  emit   : Option Byte
  deriving DecidableEq, Repr

/-- `Accumulate(v)` (41_base32_decoder.md R97). -/
def accumulate (v : BitVec 5) (s : State) : Accumulated :=
  let acc := (s.acc <<< 5 ||| v.toNat) % 2 ^ s.params.accWidth
  let n := s.bitcnt.toNat + 5
  if 8 ≤ n then { acc := acc, bitcnt := n - 8, emit := some (BitVec.ofNat 8 (acc >>> (n - 8))) }
  else { acc := acc, bitcnt := n, emit := none }

/-- `B32Fail(e)` (41_base32_decoder.md R100). -/
def b32FailWith (e : ErrCode) (s : State) : State :=
  raiseErr e { zeroizeKey s with b32Mode := .failed, b32Fail := e, acc := 0, bitcnt := 0 }

/-- `ACC <- acc; BITCNT <- n; finish()` (41_base32_decoder.md R99). -/
def storeAccumulated (a : Accumulated) (s : State) : State :=
  finish { s with acc := a.acc, bitcnt := BitVec.ofNat 4 a.bitcnt }

/-- B32_CHAR in an ACTIVE session, once the byte has a value (41_base32_decoder.md R99). -/
def b32Shift (v : BitVec 5) (s : State) : State :=
  let a := accumulate v s
  match a.emit with
  | none => storeAccumulated a s
  | some b => if keyFull s then b32FailWith .keyOverflow s else storeAccumulated a (appendKey b s)

/-- B32_CHAR in an ACTIVE session (41_base32_decoder.md R99). -/
def b32Accept (imm : Byte) (s : State) : State :=
  if imm = padByte then finish s
  else
    match b32Value (fold imm) with
    | none => b32FailWith .invalidCharacter s
    | some v => b32Shift v s

/-- B32_START (41_base32_decoder.md R98). -/
def execB32Start (s : State) : Host.Outcome State Fault Refusal :=
  .next (finish (clearDigest
    { zeroizeKey s with b32Mode := .active, b32Fail := .ok, acc := 0, bitcnt := 0, keyValid := false }))

/-- B32_CHAR (41_base32_decoder.md R99), in the order of 60_exceptions.md R136. -/
def execB32Char (imm : Byte) (s : State) : Host.Outcome State Fault Refusal :=
  .next (match s.b32Mode with
    | .idle => raiseErr .sequence s
    | .failed => raiseErr s.b32Fail s
    | .active => b32Accept imm s)

/-- B32_END (41_base32_decoder.md R101). The leftover bits stay in ACC and BITCNT (R105). -/
def execB32End (s : State) : Host.Outcome State Fault Refusal :=
  .next (match s.b32Mode with
    | .idle => raiseErr .sequence s
    | .failed => raiseErr s.b32Fail { s with b32Mode := .idle }
    | .active => finish { s with b32Mode := .idle, keyValid := true })

end Sys2Proof.Machine
end

