-- ==== Sys2Proof/Machine/Control.lean ====
section
/-! DEFINITION. The control commands (40_control.md). -/

namespace Sys2Proof.Machine

/-- NOP (40_control.md R92). -/
def execNop (s : State) : Host.Outcome State Fault Refusal := .next (finish s)

/-- SRESET (40_control.md R93). PENDING becomes none at the end of the execution step, as for every command. -/
def execSreset (s : State) : Host.Outcome State Fault Refusal := .next (resetElements s)

end Sys2Proof.Machine
end

