-- ==== Sys2Proof/Machine/Divider.lean ====
section
/-! DEFINITION. The counter_divider: the two functions of a time, for any TIME_STEP, and its commands
(44_counter_divider.md R119-R123). -/

namespace Sys2Proof.Machine

/-- `Counter(t) = t div TIME_STEP` (44_counter_divider.md R119). -/
def counterOf (timeStep : Nat) (t : DWord) : DWord := BitVec.ofNat 64 (t.toNat / timeStep)

/-- `Remaining(t) = TIME_STEP - (t mod TIME_STEP)` (44_counter_divider.md R120). -/
def remainingOf (timeStep : Nat) (t : DWord) : Word := BitVec.ofNat 32 (timeStep - t.toNat % timeStep)

/-- COUNTER, REMAINING and COUNTER_VALID from TIME (44_counter_divider.md R121, 45_generate.md R124). -/
def divideTime (s : State) : State :=
  { s with counter := counterOf s.params.timeStep s.time, remaining := remainingOf s.params.timeStep s.time,
           counterValid := true }

/-- TIME from a sample, with what a change of TIME clears (44_counter_divider.md R122). -/
def loadTime (t : DWord) (s : State) : State := clearCounter { s with time := t }

/-- DIV (44_counter_divider.md R121). -/
def execDiv (s : State) : Host.Outcome State Fault Refusal := .next (finish (divideTime s))

/-- TIME_NOW (44_counter_divider.md R122). -/
def execTimeNow (s : State) : Host.Outcome State Fault Refusal :=
  .next (match (sampleClock s).1 with
    | none => raiseErr .clockError (sampleClock s).2
    | some t => finish (loadTime t (sampleClock s).2))

/-- REMAIN_NOW (44_counter_divider.md R123). -/
def execRemainNow (s : State) : Host.Outcome State Fault Refusal :=
  .next (match (sampleClock s).1 with
    | none => raiseErr .clockError (sampleClock s).2
    | some t => finish { (sampleClock s).2 with remaining := remainingOf s.params.timeStep t })

end Sys2Proof.Machine
end

