-- ==== Sys2Proof/Machine/Sha1.lean ====
section
/-! DEFINITION. SHA-1 (42_hmac_sha1_engine.md R106-R108) and HMAC-SHA1 over it (R109-R112), as functions of byte
sequences. Nothing here is state: 10_state.md R40 makes every intermediate value transient. -/

namespace Sys2Proof.Machine

/-- The five chaining words (H0, H1, H2, H3, H4), also the working variables (a, b, c, d, e) of R107. -/
structure Chain where
  h0 : Word
  h1 : Word
  h2 : Word
  h3 : Word
  h4 : Word
  deriving DecidableEq, Repr

/-- `SHA1Pad(M)`, with `z = (55 - len(M)) mod 64` zero bytes (42_hmac_sha1_engine.md R106; log 14 for messages of 2^61
bytes or more, which the CORE never hashes). -/
def sha1Pad (m : List Byte) : List Byte :=
  m ++ [0x80] ++ List.replicate ((119 - m.length % 64) % 64) 0 ++ be64 (BitVec.ofNat 64 (8 * m.length))

/-- The first `k` blocks of 64 bytes (42_hmac_sha1_engine.md R106). -/
def blocks64 : Nat → List Byte → List (List Byte)
  | 0, _ => []
  | k + 1, bs => bs.take 64 :: blocks64 k (bs.drop 64)

/-- The big-endian words of a byte sequence whose length is a multiple of 4 (42_hmac_sha1_engine.md R107). -/
def beWords : List Byte → List Word
  | b0 :: b1 :: b2 :: b3 :: rest => beWord b0 b1 b2 b3 :: beWords rest
  | _ => []

/-- `n` further words of the schedule, the newest word first: W[t-3], W[t-8], W[t-14], W[t-16] are the words 2, 7, 13
and 15 places behind the head (42_hmac_sha1_engine.md R107). -/
def extendSchedule : Nat → List Word → List Word
  | 0, ws => ws
  | n + 1, ws =>
    extendSchedule n
      ((ws.getD 2 0 ^^^ ws.getD 7 0 ^^^ ws.getD 13 0 ^^^ ws.getD 15 0).rotateLeft 1 :: ws)

/-- W[0..79] of a block (42_hmac_sha1_engine.md R107). -/
def schedule (b : List Byte) : List Word := (extendSchedule 64 (beWords b).reverse).reverse

/-- `f` of round `t` (42_hmac_sha1_engine.md R107). -/
def roundF (t : Nat) (b c d : Word) : Word :=
  if t ≤ 19 then (b &&& c) ||| (~~~b &&& d)
  else if t ≤ 39 then b ^^^ c ^^^ d
  else if t ≤ 59 then (b &&& c) ||| (b &&& d) ||| (c &&& d)
  else b ^^^ c ^^^ d

/-- `k` of round `t` (42_hmac_sha1_engine.md R107). -/
def roundK (t : Nat) : Word :=
  if t ≤ 19 then 0x5A827999
  else if t ≤ 39 then 0x6ED9EBA1
  else if t ≤ 59 then 0x8F1BBCDC
  else 0xCA62C1D6

/-- Round `t` with schedule word `w` (42_hmac_sha1_engine.md R107). -/
def sha1Round (t : Nat) (w : Word) (v : Chain) : Chain where
  h0 := v.h0.rotateLeft 5 + roundF t v.h1 v.h2 v.h3 + v.h4 + roundK t + w
  h1 := v.h0
  h2 := v.h1.rotateLeft 30
  h3 := v.h2
  h4 := v.h3

/-- The rounds from `t` on, one for each word. -/
def sha1Rounds : Nat → List Word → Chain → Chain
  | _, [], v => v
  | t, w :: ws, v => sha1Rounds (t + 1) ws (sha1Round t w v)

/-- `SHA1Compress(H, B)` (42_hmac_sha1_engine.md R107). -/
def sha1Compress (h : Chain) (b : List Byte) : Chain :=
  let v := sha1Rounds 0 (schedule b) h
  { h0 := h.h0 + v.h0, h1 := h.h1 + v.h1, h2 := h.h2 + v.h2, h3 := h.h3 + v.h3, h4 := h.h4 + v.h4 }

/-- The initial chaining words (42_hmac_sha1_engine.md R108). -/
def sha1Init : Chain :=
  { h0 := 0x67452301, h1 := 0xEFCDAB89, h2 := 0x98BADCFE, h3 := 0x10325476, h4 := 0xC3D2E1F0 }

/-- `be32(H0) ‖ … ‖ be32(H4)`, 20 bytes (42_hmac_sha1_engine.md R108). -/
def chainBytes (h : Chain) : Vector Byte 20 :=
  ⟨(be32 h.h0 ++ be32 h.h1 ++ be32 h.h2 ++ be32 h.h3 ++ be32 h.h4).toArray, by simp [be32]⟩

/-- `SHA1(M)` (42_hmac_sha1_engine.md R108). Irreducible, so that no proof about a command runs the hash by accident;
unfold it by name. -/
@[irreducible] def sha1 (m : List Byte) : Vector Byte 20 :=
  let p := sha1Pad m
  chainBytes ((blocks64 (p.length / 64) p).foldl sha1Compress sha1Init)

/-- `K'`: a key longer than 64 bytes is replaced by its digest (42_hmac_sha1_engine.md R109). -/
def hmacKey (k : List Byte) : List Byte := if 64 < k.length then (sha1 k).toList else k

/-- `K0`: K' zero-padded on the right to 64 bytes (42_hmac_sha1_engine.md R109). -/
def hmacK0 (k : List Byte) : List Byte := hmacKey k ++ List.replicate (64 - (hmacKey k).length) 0

/-- `IPAD` (42_hmac_sha1_engine.md R110). -/
def hmacIpad (k : List Byte) : List Byte := (hmacK0 k).map (· ^^^ 0x36)

/-- `OPAD` (42_hmac_sha1_engine.md R110). -/
def hmacOpad (k : List Byte) : List Byte := (hmacK0 k).map (· ^^^ 0x5C)

/-- `HMAC_SHA1(K, m)` (42_hmac_sha1_engine.md R111). -/
def hmacSha1 (k m : List Byte) : Vector Byte 20 :=
  sha1 (hmacOpad k ++ (sha1 (hmacIpad k ++ m)).toList)

end Sys2Proof.Machine
end

