-- ==== Sys2Proof/Machine/HmacEngine.lean ====
section
/-! DEFINITION. The hmac_sha1_engine's command (42_hmac_sha1_engine.md R112, R113). -/

namespace Sys2Proof.Machine

/-- `DIGEST <- HMAC_SHA1(KEY[0..KEYLEN), be64(COUNTER)); DIGEST_VALID <- 1` (42_hmac_sha1_engine.md R112, R113). -/
def computeDigest (s : State) : State :=
  { s with digest := hmacSha1 (keyBytes s) (be64 s.counter), digestValid := true }

/-- HMAC (42_hmac_sha1_engine.md R113): NO_KEY is tested before SEQUENCE (60_exceptions.md R136). -/
def execHmac (s : State) : Host.Outcome State Fault Refusal :=
  .next (if s.keyValid = false then raiseErr .noKey s
    else if s.counterValid = false then raiseErr .sequence s
    else finish (computeDigest s))

end Sys2Proof.Machine
end

