-- ==== Sys2Proof/Machine/Truncate.lean ====
section
/-! DEFINITION. `Truncate(DIGEST) = (OFFSET, CODE32, OTP, CODE_STR)` (43_totp_truncator.md R114-R117), for any DIGITS in
its range. -/

namespace Sys2Proof.Machine

/-- What a truncation yields (43_totp_truncator.md). -/
structure Truncation where
  offset  : BitVec 4
  code32  : Word
  otp     : Word
  codeStr : Vector Byte 12
  deriving DecidableEq, Repr

/-- `offset = DIGEST[19] & 0x0F` (43_totp_truncator.md R114). -/
def truncOffset (d : Vector Byte 20) : BitVec 4 := (byteAt d 19 &&& 0x0F).setWidth 4

/-- `code32`: four bytes from `offset`, the most significant first, the top bit masked (43_totp_truncator.md R115). -/
def truncCode32 (d : Vector Byte 20) (offset : BitVec 4) : Word :=
  beWord (byteAt d offset.toNat &&& 0x7F) (byteAt d (offset.toNat + 1)) (byteAt d (offset.toNat + 2))
    (byteAt d (offset.toNat + 3))

/-- `otp = code32 mod 10^DIGITS` (43_totp_truncator.md R116). -/
def truncOtp (digits : Nat) (code32 : Word) : Word := BitVec.ofNat 32 (code32.toNat % 10 ^ digits)

/-- Byte `i` of CODE_STR: a decimal digit of `otp`, the most significant first, then zeros (43_totp_truncator.md R117). -/
def codeChar (digits : Nat) (otp : Word) (i : Nat) : Byte :=
  if i < digits then BitVec.ofNat 8 (0x30 + otp.toNat / 10 ^ (digits - 1 - i) % 10) else 0

/-- CODE_STR (43_totp_truncator.md R117). -/
def truncCodeStr (digits : Nat) (otp : Word) : Vector Byte 12 := (Vector.range 12).map (codeChar digits otp)

/-- `Truncate(DIGEST)` (43_totp_truncator.md R114-R117). -/
def truncate (digits : Nat) (d : Vector Byte 20) : Truncation :=
  let off := truncOffset d
  let c := truncCode32 d off
  let o := truncOtp digits c
  { offset := off, code32 := c, otp := o, codeStr := truncCodeStr digits o }

end Sys2Proof.Machine
end

