-- ==== Sys2Proof/Machine/Truncator.lean ====
section
/-! DEFINITION. The totp_truncator's command (43_totp_truncator.md R118). -/

namespace Sys2Proof.Machine

/-- `(OFFSET, CODE32, OTP, CODE_STR) <- Truncate(DIGEST); CODE_VALID <- 1` (43_totp_truncator.md R118). -/
def storeTruncation (s : State) : State :=
  let c := truncate s.params.digits s.digest
  { s with offset := c.offset, code32 := c.code32, otp := c.otp, codeStr := c.codeStr, codeValid := true }

/-- TRUNC (43_totp_truncator.md R118). -/
def execTrunc (s : State) : Host.Outcome State Fault Refusal :=
  .next (if s.digestValid = false then raiseErr .sequence s else finish (storeTruncation s))

end Sys2Proof.Machine
end

