-- ==== Sys2Proof/Machine/Generate.lean ====
section
/-! DEFINITION. Code generation (45_generate.md R124, R125). -/

namespace Sys2Proof.Machine

/-- The body of GEN_AT from "COUNTER <- Counter(TIME)" on (45_generate.md R124). -/
def generate (s : State) : State := finish (storeTruncation (computeDigest (divideTime s)))

/-- GEN_AT (45_generate.md R124). -/
def execGenAt (s : State) : Host.Outcome State Fault Refusal :=
  .next (if s.keyValid = false then raiseErr .noKey s else generate s)

/-- GEN_NOW (45_generate.md R125): the clock is not sampled when the key is missing (60_exceptions.md R136). -/
def execGenNow (s : State) : Host.Outcome State Fault Refusal :=
  .next (if s.keyValid = false then raiseErr .noKey s
    else
      match (sampleClock s).1 with
      | none => raiseErr .clockError (sampleClock s).2
      | some t => generate { (sampleClock s).2 with time := t })

end Sys2Proof.Machine
end

