-- ==== Sys2Proof/Machine/RawKey.lean ====
section
/-! DEFINITION. Raw key loading (41_base32_decoder.md R102, R103). -/

namespace Sys2Proof.Machine

/-- KEY_CLEAR (41_base32_decoder.md R102). -/
def execKeyClear (s : State) : Host.Outcome State Fault Refusal :=
  .next (if s.b32Mode = .idle then finish (clearDigest { zeroizeKey s with keyValid := true })
    else raiseErr .sequence s)

/-- KEY_BYTE (41_base32_decoder.md R103). -/
def execKeyByte (imm : Byte) (s : State) : Host.Outcome State Fault Refusal :=
  .next (if s.b32Mode = .idle then
      if keyFull s then raiseErr .keyOverflow (clearDigest { zeroizeKey s with keyValid := false })
      else finish (appendKey imm (clearDigest s))
    else raiseErr .sequence s)

end Sys2Proof.Machine
end

