-- ==== Sys2Proof/Machine/Dispatch.lean ====
section
/-! DEFINITION. The dispatch of 30_encoding.md R86: one arm a command, each one direct call of its meaning. -/

namespace Sys2Proof.Machine

def exec (i : Instr) (s : State) : Host.Outcome State Fault Refusal :=
  match i with
  -- control (40_control.md)
  | .nop => Sys2Proof.Machine.execNop s
  | .sreset => Sys2Proof.Machine.execSreset s
  -- base32_decoder and raw key (41_base32_decoder.md)
  | .b32Start => Sys2Proof.Machine.execB32Start s
  | .b32Char imm => Sys2Proof.Machine.execB32Char imm s
  | .b32End => Sys2Proof.Machine.execB32End s
  | .keyClear => Sys2Proof.Machine.execKeyClear s
  | .keyByte imm => Sys2Proof.Machine.execKeyByte imm s
  -- counter_divider (44_counter_divider.md)
  | .timeNow => Sys2Proof.Machine.execTimeNow s
  | .div => Sys2Proof.Machine.execDiv s
  | .remainNow => Sys2Proof.Machine.execRemainNow s
  -- hmac_sha1_engine, totp_truncator, generation (42, 43, 45)
  | .hmac => Sys2Proof.Machine.execHmac s
  | .trunc => Sys2Proof.Machine.execTrunc s
  | .genAt => Sys2Proof.Machine.execGenAt s
  | .genNow => Sys2Proof.Machine.execGenNow s

end Sys2Proof.Machine
end

