-- ==== Sys2Proof/Machine/Agents.lean ====
section
/-! DEFINITION. The moves of the two agents and of the environment: the CORE's execution step (30_encoding.md R86,
20_memory.md R74), the CORE side's turn, and the next move of the inbox (20_memory.md R75, R76; log 1). -/

namespace Sys2Proof.Machine

/-- `Execute(w)` (30_encoding.md R86): an illegal word raises ILLEGAL_CMD and changes nothing else (60_exceptions.md
R129). -/
def execute (w : Word) (s : State) : Host.Outcome State Fault Refusal :=
  match decode w with
  | .ok i => exec i s
  | .error _ => .next (raiseErr .illegalCmd s)

/-- The end of an execution step: PENDING <- none, in the same transition (20_memory.md R74). -/
def retire (o : Host.Outcome State Fault Refusal) : Host.Outcome State Fault Refusal :=
  match o with
  | .next s => .next { s with pending := none }
  | .fault f => .fault f
  | .refused r => .refused r

/-- The CORE side moves. In reset nothing is executed and nothing can stay outstanding (70_reset_and_hazards.md R144).
Else a pending command is executed (20_memory.md R74); else the outstanding access is performed (R75); else nothing
happens (70_reset_and_hazards.md R147; log 10). -/
def coreSide (s : State) : Host.Outcome State Fault Refusal :=
  if s.rstIn then .next (abortOutstanding s)
  else
    match s.pending with
    | some w => retire (execute w s)
    | none =>
      match s.outstanding with
      | some r => .next (completeOutstanding r s)
      | none => .next s

/-- The next transition: the first move of the inbox, or the CORE side where none is listed. The host has one
transaction at a time (20_memory.md R76), so a further access stays in the inbox while one is outstanding and the CORE
side moves. -/
def advance (s : State) : Host.Outcome State Fault Refusal :=
  match s.inbox with
  | [] => coreSide s
  | .coreTurn :: rest => coreSide { s with inbox := rest }
  | .rst asserted :: rest => .next (driveRst asserted { s with inbox := rest })
  | .access r :: rest =>
    match s.outstanding with
    | none => .next (issueAccess r { s with inbox := rest })
    | some _ => coreSide s

/-- Commands executed back to back, with no other move between them (45_generate.md introduction,
41_base32_decoder.md R104). -/
def runCommands : List Instr → State → Host.Outcome State Fault Refusal
  | [], s => .next s
  | i :: is, s =>
    match exec i s with
    | .next t => runCommands is t
    | .fault f => .fault f
    | .refused r => .refused r

/-- `s` with a command word pending and the CORE side to move next, out of reset (log 9). -/
def placeCommand (w : Word) (s : State) : State :=
  { s with pending := some w, inbox := .coreTurn :: s.inbox, rstIn := false }

end Sys2Proof.Machine
end

