-- ==== Sys2Proof/Machine/Step.lean ====
section
/-! DEFINITION. One step of the machine, and the placing of a command word where the next step runs it. -/

namespace Sys2Proof.Machine

/-- One transition: a bus access, an edge of `rst`, the CORE's execution step, or the completion of a waiting access
(20_memory.md R74-R76, 70_reset_and_hazards.md R143). -/
def step (s : State) : Host.Outcome State Fault Refusal := advance s

/-- `s` with a command word of spec/opcode_table.json pending in CMD, so that the very next step executes it (log 9). -/
def State.withFetchWord (s : State) (nbits w : Nat) : State := placeCommand (tableWord nbits w) s

end Sys2Proof.Machine
end

