-- ==== Sys2Proof/Machine/HostAsm.lean ====
section
/-! DEFINITION. The host assembly of 30_encoding.md R89 and its pseudo-instructions R90, as the bus accesses each stands
for. It is notation of the host, not hardware (92_eei_decisions.md D36). -/

namespace Sys2Proof.Machine

/-- The byte offset a place names. -/
def placeOff : AsmPlace → BitVec 12
  | .name r => BitVec.ofNat 12 (regOff r)
  | .raw off => BitVec.ofNat 12 off

/-- `wr CMD, word` with the word of a command (30_encoding.md R85, R89). -/
def cmdWrite (i : Instr) : BusReq := .write 0x010 4 (encode i)

/-- `b32.str`: `b32.start`, one `b32.char` a byte, `b32.end` (30_encoding.md R90). -/
def b32StrCommands (s : List Byte) : List Instr := .b32Start :: s.map .b32Char ++ [.b32End]

/-- `key.str`: `key.clear`, then one `key.byte` a byte (30_encoding.md R90). -/
def keyStrCommands (s : List Byte) : List Instr := .keyClear :: s.map .keyByte

/-- The bytes of a string literal, its ASCII codes in order (00_scope.md R16). -/
def literalBytes (s : List Nat) : List Byte := s.map (BitVec.ofNat 8)

/-- `time.set t`: the low half, then the high half (30_encoding.md R90). -/
def timeSetWrites (t : Nat) : List BusReq :=
  [.write 0x020 4 (loWord (BitVec.ofNat 64 t)), .write 0x024 4 (hiWord (BitVec.ofNat 64 t))]

/-- The accesses of an operation that the assembler accepts (30_encoding.md R89, R90). -/
def expandOp : AsmOp → List BusReq
  | .rd p => [.read (placeOff p) 4]
  | .wr p imm32 => [.write (placeOff p) 4 (BitVec.ofNat 32 imm32)]
  | .nop => [cmdWrite .nop]
  | .sreset => [cmdWrite .sreset]
  | .b32Start => [cmdWrite .b32Start]
  | .b32Char imm8 => [cmdWrite (.b32Char (BitVec.ofNat 8 imm8))]
  | .b32End => [cmdWrite .b32End]
  | .keyClear => [cmdWrite .keyClear]
  | .keyByte imm8 => [cmdWrite (.keyByte (BitVec.ofNat 8 imm8))]
  | .timeNow => [cmdWrite .timeNow]
  | .div => [cmdWrite .div]
  | .remainNow => [cmdWrite .remainNow]
  | .hmac => [cmdWrite .hmac]
  | .trunc => [cmdWrite .trunc]
  | .genAt => [cmdWrite .genAt]
  | .genNow => [cmdWrite .genNow]
  | .b32Str s => (b32StrCommands (literalBytes s)).map cmdWrite
  | .keyStr s => (keyStrCommands (literalBytes s)).map cmdWrite
  | .timeSet t => timeSetWrites t
  | .sync => [.read 0x01C 4]
  | .genAtTime t => timeSetWrites t ++ [cmdWrite .genAt]

/-- Assembling one operation; none where the assembler refuses it (30_encoding.md R89, R90). -/
def assemble (p : Config.Params) (op : AsmOp) : Option (List BusReq) :=
  if op.wellFormed p then some (expandOp op) else none

/-- A whole host program as the inbox of a state; none where one of its operations is refused. -/
def assembleProgram (p : Config.Params) : List AsmOp → Option (List Event)
  | [] => some []
  | op :: ops =>
    match assemble p op, assembleProgram p ops with
    | some rs, some es => some (rs.map .access ++ es)
    | _, _ => none

end Sys2Proof.Machine
end

