-- ==== Sys2Proof/Safety.lean ====
section
/-! DEFINITION. What a good state of the CORE is: the invariants of 10_state.md R42, and what holds while `rst` is
asserted (70_reset_and_hazards.md R144). Claims are stated in these terms. -/

namespace Sys2Proof.Machine

/-- The values of the error code a failed session records (10_state.md R42 item 4). -/
abbrev sessionError (e : ErrCode) : Prop := e = .invalidCharacter ∨ e = .keyOverflow

/-- The key buffer has KEY_MAX_BYTES bytes (10_state.md R24). -/
abbrev KeyFits (s : State) : Prop := s.key.length = s.params.keyMaxBytes

/-- The invariants of 10_state.md R42, one field an item (an item with two clauses has two), after the three facts that
give the parameters, ACC and KEY their ranges. -/
structure Invariants (s : State) : Prop where
  /-- 00_scope.md R6. -/
  params_legal   : s.params.legal = true
  /-- ACC has ACC_WIDTH bits (10_state.md R20). -/
  acc_lt         : s.acc < 2 ^ s.params.accWidth
  /-- 10_state.md R24. -/
  key_length     : KeyFits s
  /-- Item 1. -/
  bitcnt_le      : s.bitcnt.toNat ≤ 7
  /-- Item 2. -/
  keyLen_le      : s.keyLen ≤ s.params.keyMaxBytes
  /-- Item 2: KEY[i] = 0 for every i ≥ KEYLEN. -/
  key_tail       : ∀ i, i < s.params.keyMaxBytes → s.keyLen ≤ i → s.key.getD i 0 = 0
  /-- Item 3. -/
  session_no_key : s.b32Mode ≠ .idle → s.keyValid = false
  /-- Item 4. -/
  active_clean   : s.b32Mode = .active → s.b32Fail = .ok
  /-- Item 4. -/
  failed_empty   : s.b32Mode = .failed → s.keyLen = 0 ∧ s.acc = 0 ∧ s.bitcnt = 0 ∧ sessionError s.b32Fail
  /-- Item 5. -/
  counter_fresh  : s.counterValid = true → s.counter.toNat = s.time.toNat / s.params.timeStep
  /-- Item 6. -/
  digest_fresh   : s.digestValid = true →
    s.keyValid = true ∧ s.counterValid = true ∧ s.digest = hmacSha1 (keyBytes s) (be64 s.counter)
  /-- Item 7. -/
  code_fresh     : s.codeValid = true →
    s.digestValid = true ∧
      truncate s.params.digits s.digest =
        { offset := s.offset, code32 := s.code32, otp := s.otp, codeStr := s.codeStr }

/-- While `rst` is asserted the CORE is in reset: every element has its value in 10_state.md R61, nothing is pending and
no access is outstanding (70_reset_and_hazards.md R143, R144). -/
def HeldInReset (s : State) : Prop :=
  s.rstIn = true →
    s = { State.resetOf s.params with
      busResp := s.busResp, rstIn := s.rstIn, inbox := s.inbox, clockIn := s.clockIn, draws := s.draws }

/-- The CORE side moves next in `s`, and `t` is `s` with that turn taken off the inbox: a turn is listed, or nothing is, or
the next access must wait for the outstanding one (20_memory.md R74-R76; log 1). -/
def CoreSideMoves (s t : State) : Prop :=
  (∃ rest, s.inbox = .coreTurn :: rest ∧ t = { s with inbox := rest }) ∨
  (s.inbox = [] ∧ t = s) ∨
  (∃ r rest, s.inbox = .access r :: rest ∧ s.outstanding ≠ none ∧ t = s)

/-- The host's access `r` is what happens next in `s`: no access is outstanding, `rst` is not asserted (20_memory.md R76). -/
def HostMoves (s : State) (r : BusReq) (rest : List Event) : Prop :=
  s.inbox = .access r :: rest ∧ s.outstanding = none ∧ s.rstIn = false

/-- A byte of a base32 string that adds bits: not the padding, and in the alphabet after folding (41_base32_decoder.md
R94-R96). -/
def isSymbol (c : Byte) : Bool := c != padByte && (b32Value (fold c)).isSome

/-- The values of the symbols of a string, in order; padding adds none (41_base32_decoder.md R96). -/
def symbolValues (cs : List Byte) : List Nat :=
  cs.filterMap fun c => if c = padByte then none else (b32Value (fold c)).map BitVec.toNat

/-- The big-endian concatenation of 5-bit values, `V` of 41_base32_decoder.md R104. -/
def bigValue (vs : List Nat) : Nat := vs.foldl (fun acc v => acc * 32 + v) 0

end Sys2Proof.Machine
end

