-- ==== Sys2Proof/Certificates/Slice0/Obligations.lean ====
section
/-! DEFINITION. The statements for the provers. Each docstring names the rules of spec/ it formalises. A record update
`{ s with … }` as the next state is a frame: every field it does not name is unchanged. Every statement is about a machine
of any parameters, those in `s.params` (00_scope.md R6); where it needs them legal it says so. -/

open Sys2Proof Sys2Proof.Machine

/-! ### Encoding -/

/-- Each word has at most one command and each command exactly one word (30_encoding.md R85-R87). -/
def Obligations.DecodeInvertsEncode : Prop :=
  ∀ (w : Word) (i : Instr), decode w = .ok i ↔ w = encode i

/-- The worked encodings of 30_encoding.md R91, the illegal ones with the reason it names. -/
def Obligations.WorkedEncodingsDecode : Prop :=
  decode 0x00000000 = .ok .nop ∧ decode 0x01000000 = .ok .sreset ∧ decode 0x10000000 = .ok .b32Start ∧
  decode 0x1100004A = .ok (.b32Char 0x4A) ∧ decode 0x1100003D = .ok (.b32Char 0x3D) ∧
  decode 0x12000000 = .ok .b32End ∧ decode 0x18000000 = .ok .keyClear ∧ decode 0x19000031 = .ok (.keyByte 0x31) ∧
  decode 0x20000000 = .ok .timeNow ∧ decode 0x21000000 = .ok .div ∧ decode 0x22000000 = .ok .remainNow ∧
  decode 0x30000000 = .ok .hmac ∧ decode 0x38000000 = .ok .trunc ∧ decode 0x40000000 = .ok .genAt ∧
  decode 0x41000000 = .ok .genNow ∧
  decode 0x00000001 = .error .strayOperand ∧ decode 0x10000100 = .error .reservedBits ∧
  decode 0xFF000000 = .error .unassignedOp

/-- An unassigned OP, a non-zero RSVD, or a non-zero IMM8 on an operand-less command raises ILLEGAL_CMD (code 3) and
changes nothing else; and in a state that meets the invariants of 10_state.md R42 no legal word ever ends with ILLEGAL_CMD
(60_exceptions.md R129; 30_encoding.md R86, R87). -/
def Obligations.IllegalWordOnlySetsErrcode : Prop :=
  ∀ (s t : State) (w : Word), CoreSideMoves s t → s.rstIn = false → s.pending = some w →
    ((w.extractLsb' 24 8 ∉ ([0x00, 0x01, 0x10, 0x11, 0x12, 0x18, 0x19, 0x20, 0x21, 0x22, 0x30, 0x38, 0x40, 0x41] : List Byte) ∨
        w.extractLsb' 8 16 ≠ 0 ∨
        (w.extractLsb' 24 8 ≠ 0x11 ∧ w.extractLsb' 24 8 ≠ 0x19 ∧ w.extractLsb' 0 8 ≠ 0)) →
      step s = .next { t with pending := none, errcode := .illegalCmd } ∧ ErrCode.illegalCmd.code = 3) ∧
    (w.extractLsb' 24 8 ∈ ([0x00, 0x01, 0x10, 0x11, 0x12, 0x18, 0x19, 0x20, 0x21, 0x22, 0x30, 0x38, 0x40, 0x41] : List Byte) →
      w.extractLsb' 8 16 = 0 →
      (w.extractLsb' 24 8 = 0x11 ∨ w.extractLsb' 24 8 = 0x19 ∨ w.extractLsb' 0 8 = 0) →
      Invariants s → ∃ u, step s = .next u ∧ u.errcode ≠ .illegalCmd)

/-- When the CORE side moves out of reset and the pending word decodes to `i`, the step is `exec i` with PENDING cleared in
the same transition (20_memory.md R74, 30_encoding.md R86). -/
def Obligations.StepRunsDecodedCommand : Prop :=
  ∀ (s t : State) (w : Word) (i : Instr), CoreSideMoves s t → s.rstIn = false → s.pending = some w → decode w = .ok i →
    ∃ u, exec i t = .next u ∧ step s = .next { u with pending := none }

/-- No event and no command stops the machine, and an executed command leaves nothing pending, so the next command is
accepted (60_exceptions.md R134). -/
def Obligations.EveryStepAnswersNext : Prop :=
  ∀ s : State, ∃ t, step s = .next t ∧
    (∀ u, CoreSideMoves s u → s.rstIn = false → s.pending ≠ none → t.pending = none)

/-! ### Control -/

/-- NOP sets ERRCODE to OK and changes nothing else (40_control.md R92). -/
def Obligations.NopOnlySetsOk : Prop :=
  decode 0x00000000 = .ok .nop ∧ ∀ s : State, exec .nop s = .next { s with errcode := .ok }

/-- SRESET gives every element of 10_state.md R20-R38 its value in R61, ends a session and zeroizes the key; STATUS (read
with BUSY = 0) is 0 afterwards; the bus port and the inputs are untouched; and the elements are those a hardware reset
leaves (40_control.md R93). -/
def Obligations.SresetRestoresResetValues : Prop :=
  decode 0x01000000 = .ok .sreset ∧
  ∀ s : State, ∃ t, exec .sreset s = .next t ∧
    t = { params := s.params, acc := 0, bitcnt := 0, b32Mode := .idle, b32Fail := .ok,
          key := List.replicate s.params.keyMaxBytes 0, keyLen := 0, keyValid := false, time := 0,
          counter := 0, remaining := 0, counterValid := false, digest := Vector.replicate 20 0,
          digestValid := false, offset := 0, code32 := 0, otp := 0, codeStr := Vector.replicate 12 0,
          codeValid := false, errcode := .ok, pending := s.pending, outstanding := s.outstanding, busResp := s.busResp, rstIn := s.rstIn, inbox := s.inbox,
          clockIn := s.clockIn, draws := s.draws } ∧
    regValue t .status = 0 ∧
    ∀ rest, ∃ u, step { s with inbox := .rst true :: rest } = .next u ∧
      u = { t with pending := none, outstanding := none, busResp := u.busResp, rstIn := true, inbox := rest }

/-! ### base32_decoder and raw key -/

/-- The alphabet and the case folding: `A`-`Z` are 0..25, `2`-`7` are 26..31, nothing else has a value; only `a`-`z` fold, by
0x20 (41_base32_decoder.md R94, R95). -/
def Obligations.AlphabetAndFolding : Prop :=
  (∀ (u : Byte) (v : BitVec 5), b32Value u = some v ↔
    (0x41 ≤ u.toNat ∧ u.toNat ≤ 0x5A ∧ v.toNat = u.toNat - 0x41) ∨
    (0x32 ≤ u.toNat ∧ u.toNat ≤ 0x37 ∧ v.toNat = u.toNat - 0x32 + 26)) ∧
  (∀ c : Byte, (fold c).toNat = if 0x61 ≤ c.toNat ∧ c.toNat ≤ 0x7A then c.toNat - 0x20 else c.toNat)

/-- B32_START opens a session from any mode and destroys the previous key (41_base32_decoder.md R98). -/
def Obligations.StartOpensSession : Prop :=
  decode 0x10000000 = .ok .b32Start ∧
  ∀ s : State, exec .b32Start s = .next { s with
    b32Mode := .active, b32Fail := .ok, acc := 0, bitcnt := 0, key := List.replicate s.params.keyMaxBytes 0, keyLen := 0,
    keyValid := false, digestValid := false, codeValid := false, errcode := .ok }

/-- B32_CHAR outside a session raises SEQUENCE; in a failed session it repeats the stored code, whatever the byte is;
neither changes anything else (41_base32_decoder.md R99). -/
def Obligations.CharOutsideActiveSession : Prop :=
  ∀ (c : Byte) (s : State),
    (s.b32Mode = .idle → exec (.b32Char c) s = .next { s with errcode := .sequence }) ∧
    (s.b32Mode = .failed → exec (.b32Char c) s = .next { s with errcode := s.b32Fail })

/-- In an active session the padding byte 0x3D is dropped wherever it stands: no bits, no error (41_base32_decoder.md R96). -/
def Obligations.PaddingIsDropped : Prop :=
  ∀ s : State, s.b32Mode = .active → exec (.b32Char 0x3D) s = .next { s with errcode := .ok }

/-- A byte outside the alphabet after folding fails the session closed: the partial key and the buffer are destroyed and
the code is recorded, even where the key buffer is full (41_base32_decoder.md R100, 60_exceptions.md R127, R136). -/
def Obligations.InvalidCharFailsClosed : Prop :=
  ∀ (c : Byte) (s : State), s.b32Mode = .active → c ≠ 0x3D →
    (¬ (0x41 ≤ c.toNat ∧ c.toNat ≤ 0x5A) ∧ ¬ (0x61 ≤ c.toNat ∧ c.toNat ≤ 0x7A) ∧ ¬ (0x32 ≤ c.toNat ∧ c.toNat ≤ 0x37)) →
    exec (.b32Char c) s = .next { s with
      b32Mode := .failed, b32Fail := .invalidCharacter, key := List.replicate s.params.keyMaxBytes 0, keyLen := 0, acc := 0,
      bitcnt := 0, errcode := .invalidCharacter }

/-- A valid character shifts its five bits into ACC and, once eight are held, emits the top eight of the valid bits into
KEY[KEYLEN]; the rest of the state is unchanged (41_base32_decoder.md R97, R99). That ACC keeps the bits above BITCNT, so
that all of it is the shifted value mod 2^ACC_WIDTH, is the model's choice where the spec leaves them free: log 11. -/
def Obligations.CharShiftsInAndEmits : Prop :=
  ∀ (c : Byte) (v : BitVec 5) (s : State), KeyFits s → s.b32Mode = .active → c ≠ 0x3D → b32Value (fold c) = some v →
    ¬ (8 ≤ s.bitcnt.toNat + 5 ∧ s.keyLen = s.params.keyMaxBytes) →
    ∃ t, exec (.b32Char c) s = .next t ∧ KeyFits t ∧
      t = { s with acc := t.acc, bitcnt := t.bitcnt, key := t.key, keyLen := t.keyLen, errcode := .ok } ∧
      t.acc = (s.acc * 32 + v.toNat) % 2 ^ s.params.accWidth ∧
      (s.bitcnt.toNat + 5 < 8 → t.bitcnt.toNat = s.bitcnt.toNat + 5 ∧ t.key = s.key ∧ t.keyLen = s.keyLen) ∧
      (8 ≤ s.bitcnt.toNat + 5 →
        t.bitcnt.toNat = s.bitcnt.toNat + 5 - 8 ∧ t.keyLen = s.keyLen + 1 ∧
        ∀ j, j < s.params.keyMaxBytes → t.key.getD j 0 =
          if j = s.keyLen then BitVec.ofNat 8 (t.acc / 2 ^ (s.bitcnt.toNat + 5 - 8)) else s.key.getD j 0)

/-- A byte that would be emitted into a full buffer fails the session with KEY_OVERFLOW (41_base32_decoder.md R99, R100;
60_exceptions.md R130). -/
def Obligations.CharOverflowFailsClosed : Prop :=
  ∀ (c : Byte) (s : State), s.b32Mode = .active → isSymbol c = true → 8 ≤ s.bitcnt.toNat + 5 → s.keyLen = s.params.keyMaxBytes →
    exec (.b32Char c) s = .next { s with
      b32Mode := .failed, b32Fail := .keyOverflow, key := List.replicate s.params.keyMaxBytes 0, keyLen := 0, acc := 0, bitcnt := 0,
      errcode := .keyOverflow }

/-- B32_END: SEQUENCE outside a session; the stored code after a failure; else the key becomes valid. ACC and BITCNT keep
the leftover bits (41_base32_decoder.md R101). -/
def Obligations.EndClosesSession : Prop :=
  decode 0x12000000 = .ok .b32End ∧
  ∀ s : State,
    (s.b32Mode = .idle → exec .b32End s = .next { s with errcode := .sequence }) ∧
    (s.b32Mode = .failed → exec .b32End s = .next { s with b32Mode := .idle, errcode := s.b32Fail }) ∧
    (s.b32Mode = .active → exec .b32End s = .next { s with b32Mode := .idle, keyValid := true, errcode := .ok })

/-- KEY_CLEAR starts an empty valid key, and raises SEQUENCE while a session is open (41_base32_decoder.md R102). -/
def Obligations.KeyClearStartsEmptyKey : Prop :=
  decode 0x18000000 = .ok .keyClear ∧
  ∀ s : State,
    (s.b32Mode = .idle → exec .keyClear s = .next { s with
      key := List.replicate s.params.keyMaxBytes 0, keyLen := 0, keyValid := true, digestValid := false, codeValid := false,
      errcode := .ok }) ∧
    (s.b32Mode ≠ .idle → exec .keyClear s = .next { s with errcode := .sequence })

/-- KEY_BYTE appends one byte, destroys the key on overflow, and raises SEQUENCE while a session is open
(41_base32_decoder.md R103). -/
def Obligations.KeyByteAppendsByte : Prop :=
  (∀ b : Byte, decode (0x190000#24 ++ b) = .ok (.keyByte b)) ∧
  ∀ (b : Byte) (s : State),
    (s.b32Mode ≠ .idle → exec (.keyByte b) s = .next { s with errcode := .sequence }) ∧
    (s.b32Mode = .idle → s.keyLen = s.params.keyMaxBytes → exec (.keyByte b) s = .next { s with
      key := List.replicate s.params.keyMaxBytes 0, keyLen := 0, keyValid := false, digestValid := false,
      codeValid := false, errcode := .keyOverflow }) ∧
    (KeyFits s → s.b32Mode = .idle → s.keyLen ≠ s.params.keyMaxBytes → ∃ t, exec (.keyByte b) s = .next t ∧ KeyFits t ∧
      t = { s with key := t.key, keyLen := s.keyLen + 1, digestValid := false, codeValid := false, errcode := .ok } ∧
      ∀ j, j < s.params.keyMaxBytes → t.key.getD j 0 = if j = s.keyLen then b else s.key.getD j 0)

/-- The closed form of a session: any string of symbols and padding whose bytes fit the buffer decodes to its bits cut into
bytes, most significant first, whatever the state it started in; the leftover bits are those of the end of the string
(41_base32_decoder.md R104). It needs no more of ACC_WIDTH than 12 bits (00_scope.md R10). -/
def Obligations.SessionClosedForm : Prop :=
  ∀ (cs : List Byte) (s : State), 12 ≤ s.params.accWidth → (∀ c ∈ cs, c ≠ 0x3D → isSymbol c = true) →
    5 * (symbolValues cs).length / 8 ≤ s.params.keyMaxBytes →
    ∃ t, runCommands (b32StrCommands cs) s = .next t ∧
      t.keyLen = 5 * (symbolValues cs).length / 8 ∧ KeyFits t ∧
      (∀ k, k < t.keyLen → t.key.getD k 0 =
        BitVec.ofNat 8 (bigValue (symbolValues cs) / 2 ^ (5 * (symbolValues cs).length - 8 * (k + 1)))) ∧
      (∀ k, t.keyLen ≤ k → t.key.getD k 0 = 0) ∧
      t.bitcnt.toNat = 5 * (symbolValues cs).length % 8 ∧
      (resid t).toNat = bigValue (symbolValues cs) % 2 ^ t.bitcnt.toNat ∧
      t.keyValid = true ∧ t.errcode = .ok ∧ t.b32Mode = .idle

/-- A session that meets an invalid byte, after symbols and padding that fit the buffer and whatever follows it, ends with no
key at all and reports INVALID_CHARACTER (60_exceptions.md R127, 41_base32_decoder.md R100, R101). -/
def Obligations.InvalidStringLeavesNoKey : Prop :=
  ∀ (good : List Byte) (bad : Byte) (rest : List Byte) (s : State),
    (∀ c ∈ good, c ≠ 0x3D → isSymbol c = true) → 5 * (symbolValues good).length / 8 ≤ s.params.keyMaxBytes →
    bad ≠ 0x3D → isSymbol bad = false →
    ∃ t, runCommands (b32StrCommands (good ++ bad :: rest)) s = .next t ∧
      t.keyValid = false ∧ t.keyLen = 0 ∧ t.key = List.replicate s.params.keyMaxBytes 0 ∧ t.b32Mode = .idle ∧
      t.b32Fail = .invalidCharacter ∧ t.errcode = .invalidCharacter ∧
      t.time = s.time ∧ t.counter = s.counter ∧ t.counterValid = s.counterValid ∧ t.digest = s.digest ∧ t.otp = s.otp

/-! ### counter_divider -/

/-- Counter and Remaining for every legal TIME_STEP: exact floor division, and a remaining time in 1..TIME_STEP that is
TIME_STEP exactly on a multiple (44_counter_divider.md R119, R120). -/
def Obligations.CounterAndRemainingExact : Prop :=
  ∀ (step : Nat) (t : DWord), 1 ≤ step → step ≤ 2 ^ 32 - 1 →
    (counterOf step t).toNat = t.toNat / step ∧
    (remainingOf step t).toNat = step - t.toNat % step ∧
    1 ≤ (remainingOf step t).toNat ∧ (remainingOf step t).toNat ≤ step ∧
    ((remainingOf step t).toNat = step ↔ step ∣ t.toNat)

/-- DIV writes COUNTER and REMAINING from TIME, sets COUNTER_VALID and changes nothing else (44_counter_divider.md R121). -/
def Obligations.DivDividesTime : Prop :=
  decode 0x21000000 = .ok .div ∧
  ∀ s : State, ∃ t, exec .div s = .next t ∧
    t = { s with counter := t.counter, remaining := t.remaining, counterValid := true, errcode := .ok } ∧
    t.counter.toNat = s.time.toNat / s.params.timeStep ∧
    (s.params.legal = true → t.remaining.toNat = s.params.timeStep - s.time.toNat % s.params.timeStep)

/-- One clock sample takes the next listed one, or else a fresh free value, and touches nothing but the input it came from
(10_state.md R41; the two ways a sample is represented are the model's own: DESIGN CHOICE, log 2, log 4). -/
def Obligations.SampleTakesOneDraw : Prop :=
  ∀ s : State,
    (∀ v rest, s.clockIn = v :: rest → sampleClock s = (v, { s with clockIn := rest })) ∧
    (s.clockIn = [] → sampleClock s = (Config.clockDraw s.draws, { s with draws := s.draws + 1 }))

/-- TIME_NOW loads the sample and invalidates the results; a failed sample is CLOCK_ERROR and nothing else
(44_counter_divider.md R122; the sample's own representation is log 2). -/
def Obligations.TimeNowLoadsSample : Prop :=
  decode 0x20000000 = .ok .timeNow ∧
  ∀ s : State,
    (∀ t, (sampleClock s).1 = some t → exec .timeNow s = .next { (sampleClock s).2 with
      time := t, counterValid := false, digestValid := false, codeValid := false, errcode := .ok }) ∧
    ((sampleClock s).1 = none → exec .timeNow s = .next { (sampleClock s).2 with errcode := .clockError })

/-- REMAIN_NOW writes REMAINING from its own sample; a failed sample is CLOCK_ERROR and REMAINING keeps its value
(44_counter_divider.md R123). -/
def Obligations.RemainNowWritesRemaining : Prop :=
  decode 0x22000000 = .ok .remainNow ∧
  ∀ s : State,
    (∀ t, (sampleClock s).1 = some t → ∃ u, exec .remainNow s = .next u ∧
      u = { (sampleClock s).2 with remaining := u.remaining, errcode := .ok } ∧
      (s.params.legal = true → u.remaining.toNat = s.params.timeStep - t.toNat % s.params.timeStep)) ∧
    ((sampleClock s).1 = none → exec .remainNow s = .next { (sampleClock s).2 with errcode := .clockError })

/-! ### hmac_sha1_engine -/

/-- SHA-1's padding: the message, 0x80, (55 - len) mod 64 zero bytes, the 64-bit big-endian bit length; whole blocks, and
as many as the rule counts (42_hmac_sha1_engine.md R106). -/
def Obligations.Sha1PaddingShape : Prop :=
  ∀ m : List Byte, m.length < 2 ^ 61 →
    (∃ z, z < 64 ∧ (z + m.length) % 64 = 55 ∧
      ∃ len : List Byte, sha1Pad m = m ++ [0x80] ++ List.replicate z 0 ++ len ∧ len.length = 8 ∧
        len.foldl (fun acc b => acc * 256 + b.toNat) 0 = 8 * m.length) ∧
    (sha1Pad m).length % 64 = 0 ∧ (sha1Pad m).length / 64 = (m.length + 8) / 64 + 1

/-- SHA1Compress: the schedule of a block, the eighty rounds from the chaining words, and the sums at the end
(42_hmac_sha1_engine.md R107). -/
def Obligations.CompressFollowsRule : Prop :=
  ∀ (h : Chain) (b : List Byte), b.length = 64 → ∃ (w : Nat → Word) (v : Nat → Chain),
    (∀ t, t < 16 → (w t).toNat =
      (b.getD (4 * t) 0).toNat * 2 ^ 24 + (b.getD (4 * t + 1) 0).toNat * 2 ^ 16 +
        (b.getD (4 * t + 2) 0).toNat * 2 ^ 8 + (b.getD (4 * t + 3) 0).toNat) ∧
    (∀ t, 16 ≤ t → t < 80 →
      w t = (w (t - 3) ^^^ w (t - 8) ^^^ w (t - 14) ^^^ w (t - 16)).rotateLeft 1) ∧
    v 0 = h ∧
    (∀ t, t < 80 → ∃ f k : Word,
      (t ≤ 19 → f = (v t).h1 &&& (v t).h2 ||| ~~~(v t).h1 &&& (v t).h3 ∧ k = 0x5A827999) ∧
      (20 ≤ t → t ≤ 39 → f = (v t).h1 ^^^ (v t).h2 ^^^ (v t).h3 ∧ k = 0x6ED9EBA1) ∧
      (40 ≤ t → t ≤ 59 →
        f = (v t).h1 &&& (v t).h2 ||| (v t).h1 &&& (v t).h3 ||| (v t).h2 &&& (v t).h3 ∧ k = 0x8F1BBCDC) ∧
      (60 ≤ t → f = (v t).h1 ^^^ (v t).h2 ^^^ (v t).h3 ∧ k = 0xCA62C1D6) ∧
      v (t + 1) = {
        h0 := (v t).h0.rotateLeft 5 + f + (v t).h4 + k + w t, h1 := (v t).h0, h2 := (v t).h1.rotateLeft 30,
        h3 := (v t).h2, h4 := (v t).h3 }) ∧
    sha1Compress h b = {
      h0 := h.h0 + (v 80).h0, h1 := h.h1 + (v 80).h1, h2 := h.h2 + (v 80).h2, h3 := h.h3 + (v 80).h3,
      h4 := h.h4 + (v 80).h4 }

/-- SHA1: the blocks of the padded message are compressed in order from the initial words, and the digest is the five words,
most significant byte first (42_hmac_sha1_engine.md R108). -/
def Obligations.Sha1FoldsBlocks : Prop :=
  ∀ m : List Byte, ∃ hs : Nat → Chain,
    hs 0 = { h0 := 0x67452301, h1 := 0xEFCDAB89, h2 := 0x98BADCFE, h3 := 0x10325476, h4 := 0xC3D2E1F0 } ∧
    (∀ j, j < (sha1Pad m).length / 64 → hs (j + 1) = sha1Compress (hs j) (((sha1Pad m).drop (64 * j)).take 64)) ∧
    (∀ q : Fin 5, ∀ i : Fin 4, byteAt (sha1 m) (4 * q.val + i.val) =
      BitVec.ofNat 8 ((match q with
        | 0 => (hs ((sha1Pad m).length / 64)).h0
        | 1 => (hs ((sha1Pad m).length / 64)).h1
        | 2 => (hs ((sha1Pad m).length / 64)).h2
        | 3 => (hs ((sha1Pad m).length / 64)).h3
        | 4 => (hs ((sha1Pad m).length / 64)).h4).toNat / 2 ^ (24 - 8 * i.val)))

/-- HMAC-SHA1: keys of at most 64 bytes are zero-padded, longer ones hashed first, and the two nested hashes take the padded
key XORed with 0x36 and 0x5C (42_hmac_sha1_engine.md R109-R111). -/
def Obligations.HmacConstruction : Prop :=
  ∀ (k m : List Byte),
    ∃ k0 : List Byte, k0.length = 64 ∧
      (k.length ≤ 64 → k0 = k ++ List.replicate (64 - k.length) 0) ∧
      (64 < k.length → k0 = (sha1 k).toList ++ List.replicate 44 0) ∧
      hmacSha1 k m =
        sha1 (k0.map (fun b => b ^^^ 0x5C) ++ (sha1 (k0.map (fun b => b ^^^ 0x36) ++ m)).toList)

/-- Zero bytes at the end of a key of at most 64 bytes do not change its HMAC (42_hmac_sha1_engine.md R109; vector H-2 of
95_test_vectors.md). -/
def Obligations.TrailingZerosInvisible : Prop :=
  ∀ (k m : List Byte) (n : Nat), k.length + n ≤ 64 → hmacSha1 (k ++ List.replicate n 0) m = hmacSha1 k m

/-- HMAC tests the key before the counter, and else computes the digest of the present key and counter, most significant
byte of the counter first; CODE_VALID is not written (42_hmac_sha1_engine.md R113). -/
def Obligations.HmacComputesDigest : Prop :=
  decode 0x30000000 = .ok .hmac ∧
  ∀ s : State,
    (s.keyValid = false → exec .hmac s = .next { s with errcode := .noKey }) ∧
    (s.keyValid = true → s.counterValid = false → exec .hmac s = .next { s with errcode := .sequence }) ∧
    (s.keyValid = true → s.counterValid = true → exec .hmac s = .next { s with
      digest := hmacSha1 (s.key.take s.keyLen)
        ((List.range 8).map fun i => BitVec.ofNat 8 (s.counter.toNat / 2 ^ (56 - 8 * i))),
      digestValid := true, errcode := .ok })

/-! ### totp_truncator -/

/-- Dynamic truncation for every legal DIGITS: the offset, the masked big-endian word, the modulus, and a string whose
first DIGITS bytes are the decimal digits of the code and whose other bytes are 0 (43_totp_truncator.md R114-R117). -/
def Obligations.TruncationIsExact : Prop :=
  ∀ (digits : Nat) (d : Vector Byte 20), 1 ≤ digits → digits ≤ 10 →
    (truncate digits d).offset.toNat = d[19].toNat % 16 ∧
    (truncate digits d).code32.toNat =
      ((d.toList.getD (d[19].toNat % 16) 0).toNat % 128) * 2 ^ 24 + (d.toList.getD (d[19].toNat % 16 + 1) 0).toNat * 2 ^ 16 +
        (d.toList.getD (d[19].toNat % 16 + 2) 0).toNat * 2 ^ 8 + (d.toList.getD (d[19].toNat % 16 + 3) 0).toNat ∧
    (truncate digits d).code32.toNat < 2 ^ 31 ∧
    (truncate digits d).otp.toNat = (truncate digits d).code32.toNat % 10 ^ digits ∧
    (∀ i : Fin 12, i.val < digits →
      0x30 ≤ (truncate digits d).codeStr[i].toNat ∧ (truncate digits d).codeStr[i].toNat ≤ 0x39) ∧
    (∀ i : Fin 12, digits ≤ i.val → (truncate digits d).codeStr[i] = 0) ∧
    ((truncate digits d).codeStr.toList.take digits).foldl (fun acc b => acc * 10 + (b.toNat - 0x30)) 0 =
      (truncate digits d).otp.toNat

/-- TRUNC raises SEQUENCE without a valid digest, and else writes OFFSET, CODE32, OTP and CODE_STR from DIGEST and sets
CODE_VALID (43_totp_truncator.md R118, with the functions of R114-R117). -/
def Obligations.TruncWritesCode : Prop :=
  decode 0x38000000 = .ok .trunc ∧
  ∀ s : State,
    (s.digestValid = false → exec .trunc s = .next { s with errcode := .sequence }) ∧
    (s.digestValid = true → ∃ t, exec .trunc s = .next t ∧
      t = { s with offset := t.offset, code32 := t.code32, otp := t.otp, codeStr := t.codeStr, codeValid := true,
                   errcode := .ok } ∧
      t.offset.toNat = s.digest[19].toNat % 16 ∧
      t.code32 = truncCode32 s.digest t.offset ∧
      t.otp.toNat = t.code32.toNat % 10 ^ s.params.digits ∧
      ∀ i : Fin 12, t.codeStr[i] =
        if i.val < s.params.digits then
          BitVec.ofNat 8 (0x30 + t.otp.toNat / 10 ^ (s.params.digits - 1 - i.val) % 10)
        else 0)

/-! ### Generation -/

/-- GEN_AT raises NO_KEY without a valid key, and else writes counter, remaining time, digest and code from TIME and the
key, and nothing else (45_generate.md R124). -/
def Obligations.GenAtGeneratesFromTime : Prop :=
  decode 0x40000000 = .ok .genAt ∧
  ∀ s : State,
    (s.keyValid = false → exec .genAt s = .next { s with errcode := .noKey }) ∧
    (s.keyValid = true → ∃ t, exec .genAt s = .next t ∧
      t = { s with counter := t.counter, remaining := t.remaining, counterValid := true, digest := t.digest,
                   digestValid := true, offset := t.offset, code32 := t.code32, otp := t.otp, codeStr := t.codeStr,
                   codeValid := true, errcode := .ok } ∧
      t.counter.toNat = s.time.toNat / s.params.timeStep ∧
      (s.params.legal = true → t.remaining.toNat = s.params.timeStep - s.time.toNat % s.params.timeStep) ∧
      t.digest = hmacSha1 (s.key.take s.keyLen) (be64 t.counter) ∧
      truncate s.params.digits t.digest = { offset := t.offset, code32 := t.code32, otp := t.otp, codeStr := t.codeStr })

/-- GEN_NOW tests the key before it samples the clock; a failed sample changes only ERRCODE; else it is GEN_AT at the sample,
which TIME keeps (45_generate.md R125). -/
def Obligations.GenNowGeneratesFromSample : Prop :=
  decode 0x41000000 = .ok .genNow ∧
  ∀ s : State,
    (s.keyValid = false → exec .genNow s = .next { s with errcode := .noKey }) ∧
    (s.keyValid = true → (sampleClock s).1 = none →
      exec .genNow s = .next { (sampleClock s).2 with errcode := .clockError }) ∧
    (∀ x, s.keyValid = true → (sampleClock s).1 = some x → ∃ t, exec .genNow s = .next t ∧
      t = { (sampleClock s).2 with
        time := x, counter := t.counter, remaining := t.remaining, counterValid := true, digest := t.digest,
        digestValid := true, offset := t.offset, code32 := t.code32, otp := t.otp, codeStr := t.codeStr,
        codeValid := true, errcode := .ok } ∧
      t.counter.toNat = x.toNat / s.params.timeStep ∧
      (s.params.legal = true → t.remaining.toNat = s.params.timeStep - x.toNat % s.params.timeStep) ∧
      t.digest = hmacSha1 (s.key.take s.keyLen) (be64 t.counter) ∧
      truncate s.params.digits t.digest = { offset := t.offset, code32 := t.code32, otp := t.otp, codeStr := t.codeStr })

/-- With a valid key, GEN_AT has the effect of DIV, HMAC, TRUNC issued back to back (45_generate.md introduction). -/
def Obligations.GenAtIsDivHmacTrunc : Prop :=
  ∀ s : State, s.keyValid = true → runCommands [.div, .hmac, .trunc] s = exec .genAt s

/-- GEN_AT issued again gives identical results, after GEN_AT and after GEN_NOW (45_generate.md R124). -/
def Obligations.GenerationIsIdempotent : Prop :=
  (∀ s t : State, exec .genAt s = .next t → exec .genAt t = .next t) ∧
  (∀ s t : State, exec .genNow s = .next t → t.errcode = .ok → exec .genAt t = .next t)

/-- No command touches the bus port, the reset line or the inbox, nor PENDING (which the execution step clears); and only
TIME_NOW, REMAIN_NOW and, with a valid key, GEN_NOW draw from the clock (10_state.md R41, 20_memory.md R74). -/
def Obligations.CommandsLeaveTheOutsideAlone : Prop :=
  ∀ (i : Instr) (s : State), ∃ t, exec i s = .next t ∧
    t.pending = s.pending ∧ t.outstanding = s.outstanding ∧ t.busResp = s.busResp ∧ t.rstIn = s.rstIn ∧
    t.inbox = s.inbox ∧
    (i ≠ .timeNow → i ≠ .remainNow → ¬ (i = .genNow ∧ s.keyValid = true) →
      t.clockIn = s.clockIn ∧ t.draws = s.draws)

/-! ### The register bus -/

/-- A misaligned or non-32-bit access, a read of CMD, a write to a read-only register and any access to a reserved offset get
SLVERR (a read with data 0), at once and whether or not a command is pending, and change no state (20_memory.md R66, R67,
60_exceptions.md R133). -/
def Obligations.IllegalAccessGetsSlverr : Prop :=
  ∀ (s : State) (rest : List Event) (a : BitVec 12) (width : Nat) (v : Word),
    (HostMoves s (.read a width) rest →
      (width ≠ 4 ∨ a.toNat % 4 ≠ 0 ∨ a.toNat = 0x010 ∨ a.toNat = 0x04C ∨ (0x064 ≤ a.toNat ∧ a.toNat ≤ 0x0FF) ∨
        0x100 + s.params.keyMaxBytes ≤ a.toNat) →
      step s = .next { s with inbox := rest, busResp := some (.read .slverr 0) }) ∧
    (HostMoves s (.write a width v) rest →
      (width ≠ 4 ∨ ¬ (a.toNat = 0x010 ∨ a.toNat = 0x020 ∨ a.toNat = 0x024)) →
      step s = .next { s with inbox := rest, busResp := some (.write .slverr) })

/-- While a command is pending, a legal access to a held register waits: it becomes the outstanding access and nothing else
changes (20_memory.md R75). -/
def Obligations.HeldAccessWaits : Prop :=
  ∀ (s : State) (rest : List Event) (a : BitVec 12) (v : Word), s.pending ≠ none →
    (HostMoves s (.read a 4) rest → a.toNat % 4 = 0 →
      ((0x018 ≤ a.toNat ∧ a.toNat ≤ 0x048) ∨ (0x050 ≤ a.toNat ∧ a.toNat ≤ 0x060) ∨
        (0x100 ≤ a.toNat ∧ a.toNat < 0x100 + s.params.keyMaxBytes)) →
      step s = .next { s with inbox := rest, outstanding := some (.read a 4) }) ∧
    (HostMoves s (.write a 4 v) rest → (a.toNat = 0x010 ∨ a.toNat = 0x020 ∨ a.toNat = 0x024) →
      step s = .next { s with inbox := rest, outstanding := some (.write a 4 v) })

/-- The constant registers never wait: ID is the constant, and CFG_TIME_STEP, CFG_DIGITS and CFG_KEY_MAX are the copies of
the parameters (10_state.md R43-R46, 00_scope.md R6). -/
def Obligations.ConstantRegistersRead : Prop :=
  ∀ (s : State) (rest : List Event) (a : BitVec 12), HostMoves s (.read a 4) rest →
    (a = 0x000 → step s = .next { s with inbox := rest, busResp := some (.read .okay 0x50544F54) }) ∧
    (a = 0x004 → step s = .next { s with inbox := rest, busResp := some (.read .okay (BitVec.ofNat 32 s.params.timeStep)) }) ∧
    (a = 0x008 → step s = .next { s with inbox := rest, busResp := some (.read .okay (BitVec.ofNat 32 s.params.digits)) }) ∧
    (a = 0x00C → step s = .next { s with inbox := rest, busResp := some (.read .okay (BitVec.ofNat 32 s.params.keyMaxBytes)) })

/-- STATUS never waits. With BUSY = 0 every field is exactly the state it names; with BUSY = 1 bit 0 reads 1, and the other
bits are a free value on which nothing here depends. The CORE's state is unchanged either way (10_state.md R48,
70_reset_and_hazards.md R151; that a draw counts up the model's own field is log 4). -/
def Obligations.StatusReads : Prop :=
  ∀ (s : State) (rest : List Event), HostMoves s (.read 0x014 4) rest →
    ∃ w : Word, ∃ n : Nat, step s = .next { s with inbox := rest, busResp := some (.read .okay w), draws := n } ∧
      w.getLsbD 0 = s.pending.isSome ∧
      (s.pending = none → n = s.draws ∧
        w.getLsbD 1 = s.keyValid ∧ w.getLsbD 2 = s.counterValid ∧ w.getLsbD 3 = s.digestValid ∧
        w.getLsbD 4 = s.codeValid ∧
        w.extractLsb' 5 2 = (match s.b32Mode with | .idle => 0 | .active => 1 | .failed => 2) ∧
        w.getLsbD 7 = false ∧
        w.extractLsb' 8 4 = (match s.errcode with
          | .ok => 0 | .invalidCharacter => 1 | .clockError => 2 | .illegalCmd => 3 | .keyOverflow => 4
          | .noKey => 5 | .sequence => 6) ∧
        w.extractLsb' 12 20 = 0)

/-- With no command pending, the decoder's and the result registers read as their rules say, and a read changes nothing
(10_state.md R49-R56). -/
def Obligations.ResultRegistersRead : Prop :=
  ∀ (s : State) (rest : List Event) (a : BitVec 12), HostMoves s (.read a 4) rest → s.pending = none →
    0x018 ≤ a.toNat → a.toNat ≤ 0x03C → a.toNat % 4 = 0 →
    ∃ w : Word, step s = .next { s with inbox := rest, busResp := some (.read .okay w) } ∧
      (a = 0x018 → w.extractLsb' 0 4 = s.bitcnt ∧ w.extractLsb' 4 4 = 0 ∧
        (s.bitcnt.toNat ≤ 7 → (w.extractLsb' 8 7).toNat = s.acc % 2 ^ s.bitcnt.toNat) ∧
        w.getLsbD 15 = false ∧ w.extractLsb' 16 4 = s.b32Fail.code ∧ w.extractLsb' 20 12 = 0) ∧
      (a = 0x01C → w = BitVec.ofNat 32 s.keyLen) ∧
      (a = 0x020 → w.toNat = s.time.toNat % 2 ^ 32) ∧ (a = 0x024 → w.toNat = s.time.toNat / 2 ^ 32) ∧
      (a = 0x028 → w.toNat = s.counter.toNat % 2 ^ 32) ∧ (a = 0x02C → w.toNat = s.counter.toNat / 2 ^ 32) ∧
      (a = 0x030 → w = s.remaining) ∧ (a = 0x034 → w.toNat = s.offset.toNat) ∧ (a = 0x038 → w = s.code32) ∧
      (a = 0x03C → w = s.otp)

/-- CODE_STR and DIGEST on the bus: byte `i` of the array is the byte at base + i, under little-endian lanes
(10_state.md R57, R58; 20_memory.md R68). -/
def Obligations.ArraysReadInByteOrder : Prop :=
  ∀ (s : State) (rest : List Event), s.pending = none →
    (∀ k : Fin 3, HostMoves s (.read (BitVec.ofNat 12 (0x040 + 4 * k.val)) 4) rest →
      ∃ w : Word, step s = .next { s with inbox := rest, busResp := some (.read .okay w) } ∧
        ∀ j : Fin 4, w.extractLsb' (8 * j.val) 8 = s.codeStr[4 * k.val + j.val]) ∧
    (∀ k : Fin 5, HostMoves s (.read (BitVec.ofNat 12 (0x050 + 4 * k.val)) 4) rest →
      ∃ w : Word, step s = .next { s with inbox := rest, busResp := some (.read .okay w) } ∧
        ∀ j : Fin 4, w.extractLsb' (8 * j.val) 8 = s.digest[4 * k.val + j.val])

/-- The KEY window, KEY_MAX_BYTES / 4 words: four key bytes a word when KEY_VALID, and 0 otherwise (10_state.md R59). -/
def Obligations.KeyWindowGated : Prop :=
  ∀ (s : State) (rest : List Event) (k : Nat), s.params.legal = true → k < s.params.keyMaxBytes / 4 → s.pending = none →
    HostMoves s (.read (BitVec.ofNat 12 (0x100 + 4 * k)) 4) rest →
    ∃ w : Word, step s = .next { s with inbox := rest, busResp := some (.read .okay w) } ∧
      (s.keyValid = true → ∀ j : Fin 4, w.extractLsb' (8 * j.val) 8 = s.key.getD (4 * k + j.val) 0) ∧
      (s.keyValid = false → w = 0)

/-- A partial or failed key is never readable: while KEY_VALID is 0, two states that differ only in the bytes of the key
buffer answer every bus access alike, at once or after a wait and whatever moves are listed behind it, and still differ in
nothing else (10_state.md R59; how a waiting access completes is log 7). -/
def Obligations.InvalidKeyNeverLeaks : Prop :=
  ∀ (s : State) (other : List Byte) (r : BusReq), s.keyValid = false →
    (∀ rest, s.inbox = .access r :: rest → s.outstanding = none →
      ∃ t, step s = .next t ∧ step { s with key := other } = .next { t with key := other }) ∧
    (∀ u, CoreSideMoves s u → s.outstanding = some r → s.pending = none →
      ∃ t, step s = .next t ∧ step { s with key := other } = .next { t with key := other })

/-- The aperture is one little-endian image: byte `i` of an array is at base + i, and the low word of a 64-bit number lies
below its high word (20_memory.md R69). -/
def Obligations.ApertureIsLittleEndian : Prop :=
  ∀ s : State,
    (∀ i : Fin 20, apertureByte (0x050 + i.val) s = some s.digest[i]) ∧
    (∀ i : Fin 12, apertureByte (0x040 + i.val) s = some s.codeStr[i]) ∧
    (s.keyValid = true → ∀ i, i < s.params.keyMaxBytes → apertureByte (0x100 + i) s = some (s.key.getD i 0)) ∧
    (∀ i : Fin 8, apertureByte (0x020 + i.val) s = some (BitVec.ofNat 8 (s.time.toNat / 2 ^ (8 * i.val)))) ∧
    (∀ i : Fin 8, apertureByte (0x028 + i.val) s = some (BitVec.ofNat 8 (s.counter.toNat / 2 ^ (8 * i.val))))

/-- The three register writes, with nothing pending: CMD sets PENDING; TIME_LO and TIME_HI replace their half of TIME and
clear COUNTER_VALID, DIGEST_VALID and CODE_VALID, ERRCODE unchanged (10_state.md R47, R51). -/
def Obligations.RegisterWrites : Prop :=
  ∀ (s : State) (rest : List Event) (v : Word), s.pending = none →
    (HostMoves s (.write 0x010 4 v) rest →
      step s = .next { s with inbox := rest, pending := some v, busResp := some (.write .okay) }) ∧
    (HostMoves s (.write 0x020 4 v) rest → ∃ x : DWord, step s = .next { s with
        inbox := rest, time := x, counterValid := false, digestValid := false, codeValid := false,
        busResp := some (.write .okay) } ∧
      x.toNat = s.time.toNat / 2 ^ 32 * 2 ^ 32 + v.toNat) ∧
    (HostMoves s (.write 0x024 4 v) rest → ∃ x : DWord, step s = .next { s with
        inbox := rest, time := x, counterValid := false, digestValid := false, codeValid := false,
        busResp := some (.write .okay) } ∧
      x.toNat = v.toNat * 2 ^ 32 + s.time.toNat % 2 ^ 32)

/-- No read changes any state of the CORE, neither in the step that issues it nor in the step that completes it after a wait:
every field but the inbox, the response, the waiting access and the count of free values drawn is as before
(20_memory.md R64; the step of its own in which a waiting read completes is log 7, the count log 4). -/
def Obligations.ReadsHaveNoSideEffect : Prop :=
  (∀ (s : State) (rest : List Event) (a : BitVec 12) (width : Nat), HostMoves s (.read a width) rest →
    ∃ t, step s = .next t ∧
      t = { s with inbox := rest, busResp := t.busResp, outstanding := t.outstanding, draws := t.draws }) ∧
  (∀ (s u : State) (a : BitVec 12) (width : Nat), CoreSideMoves s u → s.pending = none →
    s.outstanding = some (.read a width) →
    ∃ resp, step s = .next { u with busResp := some resp, outstanding := none })

/-- A held access issued while a command is pending sees the command's complete effect: where the CORE side moves after the
access is issued, the access waits, the pending word is executed, legal or not, and then the access is performed in the
state the execution left, whatever moves are listed behind (20_memory.md R75, R76). That the access completes in a step of
its own, the third, is the model's choice: log 7. -/
def Obligations.HeldAccessSeesTheCommand : Prop :=
  ∀ (s c u v : State) (w : Word) (r : BusReq) (rest : List Event), HostMoves s r rest → s.pending = some w →
    attempt r s = none →
    CoreSideMoves { s with inbox := rest, outstanding := some r } c → execute w c = .next u →
    CoreSideMoves { u with pending := none } v →
    ∃ resp t, attempt r v = some (resp, t) ∧
      Sys2Proof.core.run 3 s = .next { t with outstanding := none, busResp := some resp }

/-- A command that stays pending is executed: out of reset and with no reset listed, after at most one more step than the
inbox is long nothing is pending (20_memory.md R74, 70_reset_and_hazards.md R154; that the inbox is finite is log 1). -/
def Obligations.PendingIsEventuallyExecuted : Prop :=
  ∀ s : State, s.rstIn = false → s.pending ≠ none → (∀ b, Event.rst b ∉ s.inbox) →
    ∃ k, k ≤ s.inbox.length + 1 ∧ ∃ t, Sys2Proof.core.run k s = .next t ∧ t.pending = none

/-- COUNTER is only ever computed from a time: a step leaves it unchanged, or clears it by asserting `rst`, or executes SRESET,
which clears it, or executes DIV, GEN_AT or GEN_NOW, after which it is TIME div TIME_STEP or unchanged
(10_state.md R28). -/
def Obligations.CounterOnlyFromTime : Prop :=
  ∀ s t : State, step s = .next t →
    t.counter = s.counter ∨
    (t.counter = 0 ∧ ∃ rest, s.inbox = .rst true :: rest) ∨
    ∃ u w, CoreSideMoves s u ∧ s.rstIn = false ∧ s.pending = some w ∧
      ((decode w = .ok .sreset ∧ t.counter = 0) ∨
        ((decode w = .ok .div ∨ decode w = .ok .genAt ∨ decode w = .ok .genNow) ∧
          t.counter.toNat = t.time.toNat / s.params.timeStep))

/-- Only commands and the assertion of `rst` change ERRCODE, the session or the key: no step does in which `rst` is not
asserted and no pending word is executed. Those steps are the issue of an access, the completion of a waiting one, a turn of
the CORE side with nothing to execute, and a release of `rst` (10_state.md R38, 60_exceptions.md R133; the steps
themselves are log 1, log 7, log 8). -/
def Obligations.OnlyCommandsWriteErrcode : Prop :=
  ∀ s : State, (∀ rest, s.inbox ≠ .rst true :: rest) →
    (s.pending = none ∨ s.rstIn = true ∨ ∀ u, ¬ CoreSideMoves s u) →
    ∃ t, step s = .next t ∧ t.errcode = s.errcode ∧ t.b32Mode = s.b32Mode ∧ t.b32Fail = s.b32Fail ∧ t.acc = s.acc ∧
      t.bitcnt = s.bitcnt ∧ t.key = s.key ∧ t.keyLen = s.keyLen ∧ t.keyValid = s.keyValid

/-! ### Reset and invariants -/

/-- The state after reset, whatever the parameters, and the parameters of this hardware (10_state.md R61; 00_scope.md R6). -/
def Obligations.ResetStateValues : Prop :=
  State.reset = State.resetOf { timeStep := 30, digits := 6, keyMaxBytes := 256, accWidth := 40 } ∧
  ∀ p : Config.Params,
    (State.resetOf p).params = p ∧ (State.resetOf p).acc = 0 ∧ (State.resetOf p).bitcnt = 0 ∧
    (State.resetOf p).b32Mode = .idle ∧ (State.resetOf p).b32Fail = .ok ∧
    (State.resetOf p).key = List.replicate p.keyMaxBytes 0 ∧ (State.resetOf p).keyLen = 0 ∧
    (State.resetOf p).keyValid = false ∧ (State.resetOf p).time = 0 ∧ (State.resetOf p).counter = 0 ∧
    (State.resetOf p).remaining = 0 ∧ (State.resetOf p).counterValid = false ∧
    (State.resetOf p).digest = Vector.replicate 20 0 ∧ (State.resetOf p).digestValid = false ∧
    (State.resetOf p).offset = 0 ∧ (State.resetOf p).code32 = 0 ∧ (State.resetOf p).otp = 0 ∧
    (State.resetOf p).codeStr = Vector.replicate 12 0 ∧ (State.resetOf p).codeValid = false ∧
    (State.resetOf p).errcode = .ok ∧ (State.resetOf p).pending = none

/-- What the host reads after reset: ID, the copies of the parameters, and 0 in every other readable register
(70_reset_and_hazards.md R145). -/
def Obligations.ResetReadsAsSpecified : Prop :=
  ∀ (p : Config.Params) (a : BitVec 12) (r : Reg), p.legal = true → readableReg p a 4 = some r →
    (regValue (State.resetOf p) r).toNat =
      if a = 0x000 then 0x50544F54 else if a = 0x004 then p.timeStep else if a = 0x008 then p.digits
      else if a = 0x00C then p.keyMaxBytes else 0

/-- Asserting `rst`, at any time: every element takes its reset value, a pending command is discarded unexecuted, and an
outstanding access completes with SLVERR and no effect (70_reset_and_hazards.md R144). -/
def Obligations.HardwareResetClearsEverything : Prop :=
  ∀ (s : State) (rest : List Event), s.inbox = .rst true :: rest →
    ∃ t, step s = .next t ∧
      t = { State.resetOf s.params with
        busResp := t.busResp, rstIn := true, inbox := rest, clockIn := s.clockIn, draws := s.draws } ∧
      (s.outstanding = none → t.busResp = s.busResp) ∧
      (∀ a n, s.outstanding = some (.read a n) → t.busResp = some (.read .slverr 0)) ∧
      (∀ a n v, s.outstanding = some (.write a n v) → t.busResp = some (.write .slverr))

/-- An access issued while `rst` is asserted gets SLVERR and has no effect; releasing `rst` changes nothing else
(70_reset_and_hazards.md R144). -/
def Obligations.AccessInResetGetsSlverr : Prop :=
  (∀ (s : State) (rest : List Event) (a : BitVec 12) (n : Nat), s.rstIn = true → s.outstanding = none →
    s.inbox = .access (.read a n) :: rest →
    step s = .next { s with inbox := rest, busResp := some (.read .slverr 0) }) ∧
  (∀ (s : State) (rest : List Event) (a : BitVec 12) (n : Nat) (v : Word), s.rstIn = true → s.outstanding = none →
    s.inbox = .access (.write a n v) :: rest →
    step s = .next { s with inbox := rest, busResp := some (.write .slverr) }) ∧
  (∀ (s : State) (rest : List Event), s.inbox = .rst false :: rest →
    step s = .next { s with inbox := rest, rstIn := false })

/-- The invariants of 10_state.md R42, with the ranges of the parameters, of ACC and of KEY, hold at reset of every legal
elaboration, and so of this hardware. -/
def Obligations.ResetMeetsInvariants : Prop :=
  (∀ p : Config.Params, p.legal = true → Invariants (State.resetOf p)) ∧ Invariants State.reset

/-- Every step keeps the invariants of 10_state.md R42, with the ranges of the parameters, of ACC and of KEY: bus accesses,
resets, and every command, legal or not. -/
def Obligations.StepKeepsInvariants : Prop :=
  ∀ s t : State, Invariants s → step s = .next t → Invariants t

/-- While `rst` is asserted the CORE stays in its reset state, whatever the host tries (70_reset_and_hazards.md R143, R144). -/
def Obligations.StepKeepsHeldInReset : Prop :=
  ∀ s t : State, HeldInReset s → step s = .next t → HeldInReset t

/-- No command and no step changes a parameter (00_scope.md R6). That the parameters are a field of State is the model's
choice: log 5. -/
def Obligations.ParametersNeverChange : Prop :=
  (∀ (i : Instr) (s t : State), exec i s = .next t → t.params = s.params) ∧
  (∀ s t : State, step s = .next t → t.params = s.params)
end

