-- ==== Sys2Proof/Laws/State.lean ====
section
/-! SUPPORT. One lemma a field for each shared update of State, true by rfl, so that no later proof unfolds a record
update. -/

namespace Sys2Proof.Machine

/-! `finish`: ends a command without an error (00_scope.md R15). -/

@[simp] theorem finish_params (s : State) : (finish s).params = s.params := rfl
@[simp] theorem finish_acc (s : State) : (finish s).acc = s.acc := rfl
@[simp] theorem finish_bitcnt (s : State) : (finish s).bitcnt = s.bitcnt := rfl
@[simp] theorem finish_b32Mode (s : State) : (finish s).b32Mode = s.b32Mode := rfl
@[simp] theorem finish_b32Fail (s : State) : (finish s).b32Fail = s.b32Fail := rfl
@[simp] theorem finish_key (s : State) : (finish s).key = s.key := rfl
@[simp] theorem finish_keyLen (s : State) : (finish s).keyLen = s.keyLen := rfl
@[simp] theorem finish_keyValid (s : State) : (finish s).keyValid = s.keyValid := rfl
@[simp] theorem finish_time (s : State) : (finish s).time = s.time := rfl
@[simp] theorem finish_counter (s : State) : (finish s).counter = s.counter := rfl
@[simp] theorem finish_remaining (s : State) : (finish s).remaining = s.remaining := rfl
@[simp] theorem finish_counterValid (s : State) : (finish s).counterValid = s.counterValid := rfl
@[simp] theorem finish_digest (s : State) : (finish s).digest = s.digest := rfl
@[simp] theorem finish_digestValid (s : State) : (finish s).digestValid = s.digestValid := rfl
@[simp] theorem finish_offset (s : State) : (finish s).offset = s.offset := rfl
@[simp] theorem finish_code32 (s : State) : (finish s).code32 = s.code32 := rfl
@[simp] theorem finish_otp (s : State) : (finish s).otp = s.otp := rfl
@[simp] theorem finish_codeStr (s : State) : (finish s).codeStr = s.codeStr := rfl
@[simp] theorem finish_codeValid (s : State) : (finish s).codeValid = s.codeValid := rfl
@[simp] theorem finish_errcode (s : State) : (finish s).errcode = .ok := rfl
@[simp] theorem finish_pending (s : State) : (finish s).pending = s.pending := rfl
@[simp] theorem finish_outstanding (s : State) : (finish s).outstanding = s.outstanding := rfl
@[simp] theorem finish_busResp (s : State) : (finish s).busResp = s.busResp := rfl
@[simp] theorem finish_rstIn (s : State) : (finish s).rstIn = s.rstIn := rfl
@[simp] theorem finish_inbox (s : State) : (finish s).inbox = s.inbox := rfl
@[simp] theorem finish_clockIn (s : State) : (finish s).clockIn = s.clockIn := rfl
@[simp] theorem finish_draws (s : State) : (finish s).draws = s.draws := rfl

/-! `raiseErr`: takes an error (00_scope.md R15). -/

@[simp] theorem raiseErr_params (e : ErrCode) (s : State) : (raiseErr e s).params = s.params := rfl
@[simp] theorem raiseErr_acc (e : ErrCode) (s : State) : (raiseErr e s).acc = s.acc := rfl
@[simp] theorem raiseErr_bitcnt (e : ErrCode) (s : State) : (raiseErr e s).bitcnt = s.bitcnt := rfl
@[simp] theorem raiseErr_b32Mode (e : ErrCode) (s : State) : (raiseErr e s).b32Mode = s.b32Mode := rfl
@[simp] theorem raiseErr_b32Fail (e : ErrCode) (s : State) : (raiseErr e s).b32Fail = s.b32Fail := rfl
@[simp] theorem raiseErr_key (e : ErrCode) (s : State) : (raiseErr e s).key = s.key := rfl
@[simp] theorem raiseErr_keyLen (e : ErrCode) (s : State) : (raiseErr e s).keyLen = s.keyLen := rfl
@[simp] theorem raiseErr_keyValid (e : ErrCode) (s : State) : (raiseErr e s).keyValid = s.keyValid := rfl
@[simp] theorem raiseErr_time (e : ErrCode) (s : State) : (raiseErr e s).time = s.time := rfl
@[simp] theorem raiseErr_counter (e : ErrCode) (s : State) : (raiseErr e s).counter = s.counter := rfl
@[simp] theorem raiseErr_remaining (e : ErrCode) (s : State) : (raiseErr e s).remaining = s.remaining := rfl
@[simp] theorem raiseErr_counterValid (e : ErrCode) (s : State) : (raiseErr e s).counterValid = s.counterValid := rfl
@[simp] theorem raiseErr_digest (e : ErrCode) (s : State) : (raiseErr e s).digest = s.digest := rfl
@[simp] theorem raiseErr_digestValid (e : ErrCode) (s : State) : (raiseErr e s).digestValid = s.digestValid := rfl
@[simp] theorem raiseErr_offset (e : ErrCode) (s : State) : (raiseErr e s).offset = s.offset := rfl
@[simp] theorem raiseErr_code32 (e : ErrCode) (s : State) : (raiseErr e s).code32 = s.code32 := rfl
@[simp] theorem raiseErr_otp (e : ErrCode) (s : State) : (raiseErr e s).otp = s.otp := rfl
@[simp] theorem raiseErr_codeStr (e : ErrCode) (s : State) : (raiseErr e s).codeStr = s.codeStr := rfl
@[simp] theorem raiseErr_codeValid (e : ErrCode) (s : State) : (raiseErr e s).codeValid = s.codeValid := rfl
@[simp] theorem raiseErr_errcode (e : ErrCode) (s : State) : (raiseErr e s).errcode = e := rfl
@[simp] theorem raiseErr_pending (e : ErrCode) (s : State) : (raiseErr e s).pending = s.pending := rfl
@[simp] theorem raiseErr_outstanding (e : ErrCode) (s : State) : (raiseErr e s).outstanding = s.outstanding := rfl
@[simp] theorem raiseErr_busResp (e : ErrCode) (s : State) : (raiseErr e s).busResp = s.busResp := rfl
@[simp] theorem raiseErr_rstIn (e : ErrCode) (s : State) : (raiseErr e s).rstIn = s.rstIn := rfl
@[simp] theorem raiseErr_inbox (e : ErrCode) (s : State) : (raiseErr e s).inbox = s.inbox := rfl
@[simp] theorem raiseErr_clockIn (e : ErrCode) (s : State) : (raiseErr e s).clockIn = s.clockIn := rfl
@[simp] theorem raiseErr_draws (e : ErrCode) (s : State) : (raiseErr e s).draws = s.draws := rfl

/-! `clearDigest`: 10_state.md R32, R37. -/

@[simp] theorem clearDigest_params (s : State) : (clearDigest s).params = s.params := rfl
@[simp] theorem clearDigest_acc (s : State) : (clearDigest s).acc = s.acc := rfl
@[simp] theorem clearDigest_bitcnt (s : State) : (clearDigest s).bitcnt = s.bitcnt := rfl
@[simp] theorem clearDigest_b32Mode (s : State) : (clearDigest s).b32Mode = s.b32Mode := rfl
@[simp] theorem clearDigest_b32Fail (s : State) : (clearDigest s).b32Fail = s.b32Fail := rfl
@[simp] theorem clearDigest_key (s : State) : (clearDigest s).key = s.key := rfl
@[simp] theorem clearDigest_keyLen (s : State) : (clearDigest s).keyLen = s.keyLen := rfl
@[simp] theorem clearDigest_keyValid (s : State) : (clearDigest s).keyValid = s.keyValid := rfl
@[simp] theorem clearDigest_time (s : State) : (clearDigest s).time = s.time := rfl
@[simp] theorem clearDigest_counter (s : State) : (clearDigest s).counter = s.counter := rfl
@[simp] theorem clearDigest_remaining (s : State) : (clearDigest s).remaining = s.remaining := rfl
@[simp] theorem clearDigest_counterValid (s : State) : (clearDigest s).counterValid = s.counterValid := rfl
@[simp] theorem clearDigest_digest (s : State) : (clearDigest s).digest = s.digest := rfl
@[simp] theorem clearDigest_digestValid (s : State) : (clearDigest s).digestValid = false := rfl
@[simp] theorem clearDigest_offset (s : State) : (clearDigest s).offset = s.offset := rfl
@[simp] theorem clearDigest_code32 (s : State) : (clearDigest s).code32 = s.code32 := rfl
@[simp] theorem clearDigest_otp (s : State) : (clearDigest s).otp = s.otp := rfl
@[simp] theorem clearDigest_codeStr (s : State) : (clearDigest s).codeStr = s.codeStr := rfl
@[simp] theorem clearDigest_codeValid (s : State) : (clearDigest s).codeValid = false := rfl
@[simp] theorem clearDigest_errcode (s : State) : (clearDigest s).errcode = s.errcode := rfl
@[simp] theorem clearDigest_pending (s : State) : (clearDigest s).pending = s.pending := rfl
@[simp] theorem clearDigest_outstanding (s : State) : (clearDigest s).outstanding = s.outstanding := rfl
@[simp] theorem clearDigest_busResp (s : State) : (clearDigest s).busResp = s.busResp := rfl
@[simp] theorem clearDigest_rstIn (s : State) : (clearDigest s).rstIn = s.rstIn := rfl
@[simp] theorem clearDigest_inbox (s : State) : (clearDigest s).inbox = s.inbox := rfl
@[simp] theorem clearDigest_clockIn (s : State) : (clearDigest s).clockIn = s.clockIn := rfl
@[simp] theorem clearDigest_draws (s : State) : (clearDigest s).draws = s.draws := rfl

/-! `clearCounter`: 10_state.md R30. -/

@[simp] theorem clearCounter_params (s : State) : (clearCounter s).params = s.params := rfl
@[simp] theorem clearCounter_acc (s : State) : (clearCounter s).acc = s.acc := rfl
@[simp] theorem clearCounter_bitcnt (s : State) : (clearCounter s).bitcnt = s.bitcnt := rfl
@[simp] theorem clearCounter_b32Mode (s : State) : (clearCounter s).b32Mode = s.b32Mode := rfl
@[simp] theorem clearCounter_b32Fail (s : State) : (clearCounter s).b32Fail = s.b32Fail := rfl
@[simp] theorem clearCounter_key (s : State) : (clearCounter s).key = s.key := rfl
@[simp] theorem clearCounter_keyLen (s : State) : (clearCounter s).keyLen = s.keyLen := rfl
@[simp] theorem clearCounter_keyValid (s : State) : (clearCounter s).keyValid = s.keyValid := rfl
@[simp] theorem clearCounter_time (s : State) : (clearCounter s).time = s.time := rfl
@[simp] theorem clearCounter_counter (s : State) : (clearCounter s).counter = s.counter := rfl
@[simp] theorem clearCounter_remaining (s : State) : (clearCounter s).remaining = s.remaining := rfl
@[simp] theorem clearCounter_counterValid (s : State) : (clearCounter s).counterValid = false := rfl
@[simp] theorem clearCounter_digest (s : State) : (clearCounter s).digest = s.digest := rfl
@[simp] theorem clearCounter_digestValid (s : State) : (clearCounter s).digestValid = false := rfl
@[simp] theorem clearCounter_offset (s : State) : (clearCounter s).offset = s.offset := rfl
@[simp] theorem clearCounter_code32 (s : State) : (clearCounter s).code32 = s.code32 := rfl
@[simp] theorem clearCounter_otp (s : State) : (clearCounter s).otp = s.otp := rfl
@[simp] theorem clearCounter_codeStr (s : State) : (clearCounter s).codeStr = s.codeStr := rfl
@[simp] theorem clearCounter_codeValid (s : State) : (clearCounter s).codeValid = false := rfl
@[simp] theorem clearCounter_errcode (s : State) : (clearCounter s).errcode = s.errcode := rfl
@[simp] theorem clearCounter_pending (s : State) : (clearCounter s).pending = s.pending := rfl
@[simp] theorem clearCounter_outstanding (s : State) : (clearCounter s).outstanding = s.outstanding := rfl
@[simp] theorem clearCounter_busResp (s : State) : (clearCounter s).busResp = s.busResp := rfl
@[simp] theorem clearCounter_rstIn (s : State) : (clearCounter s).rstIn = s.rstIn := rfl
@[simp] theorem clearCounter_inbox (s : State) : (clearCounter s).inbox = s.inbox := rfl
@[simp] theorem clearCounter_clockIn (s : State) : (clearCounter s).clockIn = s.clockIn := rfl
@[simp] theorem clearCounter_draws (s : State) : (clearCounter s).draws = s.draws := rfl

/-! `zeroizeKey`: 10_state.md R24, R25. -/

@[simp] theorem zeroizeKey_params (s : State) : (zeroizeKey s).params = s.params := rfl
@[simp] theorem zeroizeKey_acc (s : State) : (zeroizeKey s).acc = s.acc := rfl
@[simp] theorem zeroizeKey_bitcnt (s : State) : (zeroizeKey s).bitcnt = s.bitcnt := rfl
@[simp] theorem zeroizeKey_b32Mode (s : State) : (zeroizeKey s).b32Mode = s.b32Mode := rfl
@[simp] theorem zeroizeKey_b32Fail (s : State) : (zeroizeKey s).b32Fail = s.b32Fail := rfl
@[simp] theorem zeroizeKey_key (s : State) : (zeroizeKey s).key = List.replicate s.params.keyMaxBytes 0 := rfl
@[simp] theorem zeroizeKey_keyLen (s : State) : (zeroizeKey s).keyLen = 0 := rfl
@[simp] theorem zeroizeKey_keyValid (s : State) : (zeroizeKey s).keyValid = s.keyValid := rfl
@[simp] theorem zeroizeKey_time (s : State) : (zeroizeKey s).time = s.time := rfl
@[simp] theorem zeroizeKey_counter (s : State) : (zeroizeKey s).counter = s.counter := rfl
@[simp] theorem zeroizeKey_remaining (s : State) : (zeroizeKey s).remaining = s.remaining := rfl
@[simp] theorem zeroizeKey_counterValid (s : State) : (zeroizeKey s).counterValid = s.counterValid := rfl
@[simp] theorem zeroizeKey_digest (s : State) : (zeroizeKey s).digest = s.digest := rfl
@[simp] theorem zeroizeKey_digestValid (s : State) : (zeroizeKey s).digestValid = s.digestValid := rfl
@[simp] theorem zeroizeKey_offset (s : State) : (zeroizeKey s).offset = s.offset := rfl
@[simp] theorem zeroizeKey_code32 (s : State) : (zeroizeKey s).code32 = s.code32 := rfl
@[simp] theorem zeroizeKey_otp (s : State) : (zeroizeKey s).otp = s.otp := rfl
@[simp] theorem zeroizeKey_codeStr (s : State) : (zeroizeKey s).codeStr = s.codeStr := rfl
@[simp] theorem zeroizeKey_codeValid (s : State) : (zeroizeKey s).codeValid = s.codeValid := rfl
@[simp] theorem zeroizeKey_errcode (s : State) : (zeroizeKey s).errcode = s.errcode := rfl
@[simp] theorem zeroizeKey_pending (s : State) : (zeroizeKey s).pending = s.pending := rfl
@[simp] theorem zeroizeKey_outstanding (s : State) : (zeroizeKey s).outstanding = s.outstanding := rfl
@[simp] theorem zeroizeKey_busResp (s : State) : (zeroizeKey s).busResp = s.busResp := rfl
@[simp] theorem zeroizeKey_rstIn (s : State) : (zeroizeKey s).rstIn = s.rstIn := rfl
@[simp] theorem zeroizeKey_inbox (s : State) : (zeroizeKey s).inbox = s.inbox := rfl
@[simp] theorem zeroizeKey_clockIn (s : State) : (zeroizeKey s).clockIn = s.clockIn := rfl
@[simp] theorem zeroizeKey_draws (s : State) : (zeroizeKey s).draws = s.draws := rfl

/-! `appendKey`: 41_base32_decoder.md R99, R103. -/

@[simp] theorem appendKey_params (b : Byte) (s : State) : (appendKey b s).params = s.params := rfl
@[simp] theorem appendKey_acc (b : Byte) (s : State) : (appendKey b s).acc = s.acc := rfl
@[simp] theorem appendKey_bitcnt (b : Byte) (s : State) : (appendKey b s).bitcnt = s.bitcnt := rfl
@[simp] theorem appendKey_b32Mode (b : Byte) (s : State) : (appendKey b s).b32Mode = s.b32Mode := rfl
@[simp] theorem appendKey_b32Fail (b : Byte) (s : State) : (appendKey b s).b32Fail = s.b32Fail := rfl
@[simp] theorem appendKey_key (b : Byte) (s : State) : (appendKey b s).key = s.key.set s.keyLen b := rfl
@[simp] theorem appendKey_keyLen (b : Byte) (s : State) : (appendKey b s).keyLen = s.keyLen + 1 := rfl
@[simp] theorem appendKey_keyValid (b : Byte) (s : State) : (appendKey b s).keyValid = s.keyValid := rfl
@[simp] theorem appendKey_time (b : Byte) (s : State) : (appendKey b s).time = s.time := rfl
@[simp] theorem appendKey_counter (b : Byte) (s : State) : (appendKey b s).counter = s.counter := rfl
@[simp] theorem appendKey_remaining (b : Byte) (s : State) : (appendKey b s).remaining = s.remaining := rfl
@[simp] theorem appendKey_counterValid (b : Byte) (s : State) : (appendKey b s).counterValid = s.counterValid := rfl
@[simp] theorem appendKey_digest (b : Byte) (s : State) : (appendKey b s).digest = s.digest := rfl
@[simp] theorem appendKey_digestValid (b : Byte) (s : State) : (appendKey b s).digestValid = s.digestValid := rfl
@[simp] theorem appendKey_offset (b : Byte) (s : State) : (appendKey b s).offset = s.offset := rfl
@[simp] theorem appendKey_code32 (b : Byte) (s : State) : (appendKey b s).code32 = s.code32 := rfl
@[simp] theorem appendKey_otp (b : Byte) (s : State) : (appendKey b s).otp = s.otp := rfl
@[simp] theorem appendKey_codeStr (b : Byte) (s : State) : (appendKey b s).codeStr = s.codeStr := rfl
@[simp] theorem appendKey_codeValid (b : Byte) (s : State) : (appendKey b s).codeValid = s.codeValid := rfl
@[simp] theorem appendKey_errcode (b : Byte) (s : State) : (appendKey b s).errcode = s.errcode := rfl
@[simp] theorem appendKey_pending (b : Byte) (s : State) : (appendKey b s).pending = s.pending := rfl
@[simp] theorem appendKey_outstanding (b : Byte) (s : State) : (appendKey b s).outstanding = s.outstanding := rfl
@[simp] theorem appendKey_busResp (b : Byte) (s : State) : (appendKey b s).busResp = s.busResp := rfl
@[simp] theorem appendKey_rstIn (b : Byte) (s : State) : (appendKey b s).rstIn = s.rstIn := rfl
@[simp] theorem appendKey_inbox (b : Byte) (s : State) : (appendKey b s).inbox = s.inbox := rfl
@[simp] theorem appendKey_clockIn (b : Byte) (s : State) : (appendKey b s).clockIn = s.clockIn := rfl
@[simp] theorem appendKey_draws (b : Byte) (s : State) : (appendKey b s).draws = s.draws := rfl

/-! `b32FailWith`: 41_base32_decoder.md R100. -/

@[simp] theorem b32FailWith_params (e : ErrCode) (s : State) : (b32FailWith e s).params = s.params := rfl
@[simp] theorem b32FailWith_acc (e : ErrCode) (s : State) : (b32FailWith e s).acc = 0 := rfl
@[simp] theorem b32FailWith_bitcnt (e : ErrCode) (s : State) : (b32FailWith e s).bitcnt = 0 := rfl
@[simp] theorem b32FailWith_b32Mode (e : ErrCode) (s : State) : (b32FailWith e s).b32Mode = .failed := rfl
@[simp] theorem b32FailWith_b32Fail (e : ErrCode) (s : State) : (b32FailWith e s).b32Fail = e := rfl
@[simp] theorem b32FailWith_key (e : ErrCode) (s : State) : (b32FailWith e s).key = List.replicate s.params.keyMaxBytes 0 := rfl
@[simp] theorem b32FailWith_keyLen (e : ErrCode) (s : State) : (b32FailWith e s).keyLen = 0 := rfl
@[simp] theorem b32FailWith_keyValid (e : ErrCode) (s : State) : (b32FailWith e s).keyValid = s.keyValid := rfl
@[simp] theorem b32FailWith_time (e : ErrCode) (s : State) : (b32FailWith e s).time = s.time := rfl
@[simp] theorem b32FailWith_counter (e : ErrCode) (s : State) : (b32FailWith e s).counter = s.counter := rfl
@[simp] theorem b32FailWith_remaining (e : ErrCode) (s : State) : (b32FailWith e s).remaining = s.remaining := rfl
@[simp] theorem b32FailWith_counterValid (e : ErrCode) (s : State) : (b32FailWith e s).counterValid = s.counterValid := rfl
@[simp] theorem b32FailWith_digest (e : ErrCode) (s : State) : (b32FailWith e s).digest = s.digest := rfl
@[simp] theorem b32FailWith_digestValid (e : ErrCode) (s : State) : (b32FailWith e s).digestValid = s.digestValid := rfl
@[simp] theorem b32FailWith_offset (e : ErrCode) (s : State) : (b32FailWith e s).offset = s.offset := rfl
@[simp] theorem b32FailWith_code32 (e : ErrCode) (s : State) : (b32FailWith e s).code32 = s.code32 := rfl
@[simp] theorem b32FailWith_otp (e : ErrCode) (s : State) : (b32FailWith e s).otp = s.otp := rfl
@[simp] theorem b32FailWith_codeStr (e : ErrCode) (s : State) : (b32FailWith e s).codeStr = s.codeStr := rfl
@[simp] theorem b32FailWith_codeValid (e : ErrCode) (s : State) : (b32FailWith e s).codeValid = s.codeValid := rfl
@[simp] theorem b32FailWith_errcode (e : ErrCode) (s : State) : (b32FailWith e s).errcode = e := rfl
@[simp] theorem b32FailWith_pending (e : ErrCode) (s : State) : (b32FailWith e s).pending = s.pending := rfl
@[simp] theorem b32FailWith_outstanding (e : ErrCode) (s : State) : (b32FailWith e s).outstanding = s.outstanding := rfl
@[simp] theorem b32FailWith_busResp (e : ErrCode) (s : State) : (b32FailWith e s).busResp = s.busResp := rfl
@[simp] theorem b32FailWith_rstIn (e : ErrCode) (s : State) : (b32FailWith e s).rstIn = s.rstIn := rfl
@[simp] theorem b32FailWith_inbox (e : ErrCode) (s : State) : (b32FailWith e s).inbox = s.inbox := rfl
@[simp] theorem b32FailWith_clockIn (e : ErrCode) (s : State) : (b32FailWith e s).clockIn = s.clockIn := rfl
@[simp] theorem b32FailWith_draws (e : ErrCode) (s : State) : (b32FailWith e s).draws = s.draws := rfl

/-! `storeAccumulated`: 41_base32_decoder.md R99. -/

@[simp] theorem storeAccumulated_params (a : Accumulated) (s : State) : (storeAccumulated a s).params = s.params := rfl
@[simp] theorem storeAccumulated_acc (a : Accumulated) (s : State) : (storeAccumulated a s).acc = a.acc := rfl
@[simp] theorem storeAccumulated_bitcnt (a : Accumulated) (s : State) : (storeAccumulated a s).bitcnt = BitVec.ofNat 4 a.bitcnt := rfl
@[simp] theorem storeAccumulated_b32Mode (a : Accumulated) (s : State) : (storeAccumulated a s).b32Mode = s.b32Mode := rfl
@[simp] theorem storeAccumulated_b32Fail (a : Accumulated) (s : State) : (storeAccumulated a s).b32Fail = s.b32Fail := rfl
@[simp] theorem storeAccumulated_key (a : Accumulated) (s : State) : (storeAccumulated a s).key = s.key := rfl
@[simp] theorem storeAccumulated_keyLen (a : Accumulated) (s : State) : (storeAccumulated a s).keyLen = s.keyLen := rfl
@[simp] theorem storeAccumulated_keyValid (a : Accumulated) (s : State) : (storeAccumulated a s).keyValid = s.keyValid := rfl
@[simp] theorem storeAccumulated_time (a : Accumulated) (s : State) : (storeAccumulated a s).time = s.time := rfl
@[simp] theorem storeAccumulated_counter (a : Accumulated) (s : State) : (storeAccumulated a s).counter = s.counter := rfl
@[simp] theorem storeAccumulated_remaining (a : Accumulated) (s : State) : (storeAccumulated a s).remaining = s.remaining := rfl
@[simp] theorem storeAccumulated_counterValid (a : Accumulated) (s : State) : (storeAccumulated a s).counterValid = s.counterValid := rfl
@[simp] theorem storeAccumulated_digest (a : Accumulated) (s : State) : (storeAccumulated a s).digest = s.digest := rfl
@[simp] theorem storeAccumulated_digestValid (a : Accumulated) (s : State) : (storeAccumulated a s).digestValid = s.digestValid := rfl
@[simp] theorem storeAccumulated_offset (a : Accumulated) (s : State) : (storeAccumulated a s).offset = s.offset := rfl
@[simp] theorem storeAccumulated_code32 (a : Accumulated) (s : State) : (storeAccumulated a s).code32 = s.code32 := rfl
@[simp] theorem storeAccumulated_otp (a : Accumulated) (s : State) : (storeAccumulated a s).otp = s.otp := rfl
@[simp] theorem storeAccumulated_codeStr (a : Accumulated) (s : State) : (storeAccumulated a s).codeStr = s.codeStr := rfl
@[simp] theorem storeAccumulated_codeValid (a : Accumulated) (s : State) : (storeAccumulated a s).codeValid = s.codeValid := rfl
@[simp] theorem storeAccumulated_errcode (a : Accumulated) (s : State) : (storeAccumulated a s).errcode = .ok := rfl
@[simp] theorem storeAccumulated_pending (a : Accumulated) (s : State) : (storeAccumulated a s).pending = s.pending := rfl
@[simp] theorem storeAccumulated_outstanding (a : Accumulated) (s : State) : (storeAccumulated a s).outstanding = s.outstanding := rfl
@[simp] theorem storeAccumulated_busResp (a : Accumulated) (s : State) : (storeAccumulated a s).busResp = s.busResp := rfl
@[simp] theorem storeAccumulated_rstIn (a : Accumulated) (s : State) : (storeAccumulated a s).rstIn = s.rstIn := rfl
@[simp] theorem storeAccumulated_inbox (a : Accumulated) (s : State) : (storeAccumulated a s).inbox = s.inbox := rfl
@[simp] theorem storeAccumulated_clockIn (a : Accumulated) (s : State) : (storeAccumulated a s).clockIn = s.clockIn := rfl
@[simp] theorem storeAccumulated_draws (a : Accumulated) (s : State) : (storeAccumulated a s).draws = s.draws := rfl

/-! `divideTime`: 44_counter_divider.md R121. -/

@[simp] theorem divideTime_params (s : State) : (divideTime s).params = s.params := rfl
@[simp] theorem divideTime_acc (s : State) : (divideTime s).acc = s.acc := rfl
@[simp] theorem divideTime_bitcnt (s : State) : (divideTime s).bitcnt = s.bitcnt := rfl
@[simp] theorem divideTime_b32Mode (s : State) : (divideTime s).b32Mode = s.b32Mode := rfl
@[simp] theorem divideTime_b32Fail (s : State) : (divideTime s).b32Fail = s.b32Fail := rfl
@[simp] theorem divideTime_key (s : State) : (divideTime s).key = s.key := rfl
@[simp] theorem divideTime_keyLen (s : State) : (divideTime s).keyLen = s.keyLen := rfl
@[simp] theorem divideTime_keyValid (s : State) : (divideTime s).keyValid = s.keyValid := rfl
@[simp] theorem divideTime_time (s : State) : (divideTime s).time = s.time := rfl
@[simp] theorem divideTime_counter (s : State) : (divideTime s).counter = counterOf s.params.timeStep s.time := rfl
@[simp] theorem divideTime_remaining (s : State) : (divideTime s).remaining = remainingOf s.params.timeStep s.time := rfl
@[simp] theorem divideTime_counterValid (s : State) : (divideTime s).counterValid = true := rfl
@[simp] theorem divideTime_digest (s : State) : (divideTime s).digest = s.digest := rfl
@[simp] theorem divideTime_digestValid (s : State) : (divideTime s).digestValid = s.digestValid := rfl
@[simp] theorem divideTime_offset (s : State) : (divideTime s).offset = s.offset := rfl
@[simp] theorem divideTime_code32 (s : State) : (divideTime s).code32 = s.code32 := rfl
@[simp] theorem divideTime_otp (s : State) : (divideTime s).otp = s.otp := rfl
@[simp] theorem divideTime_codeStr (s : State) : (divideTime s).codeStr = s.codeStr := rfl
@[simp] theorem divideTime_codeValid (s : State) : (divideTime s).codeValid = s.codeValid := rfl
@[simp] theorem divideTime_errcode (s : State) : (divideTime s).errcode = s.errcode := rfl
@[simp] theorem divideTime_pending (s : State) : (divideTime s).pending = s.pending := rfl
@[simp] theorem divideTime_outstanding (s : State) : (divideTime s).outstanding = s.outstanding := rfl
@[simp] theorem divideTime_busResp (s : State) : (divideTime s).busResp = s.busResp := rfl
@[simp] theorem divideTime_rstIn (s : State) : (divideTime s).rstIn = s.rstIn := rfl
@[simp] theorem divideTime_inbox (s : State) : (divideTime s).inbox = s.inbox := rfl
@[simp] theorem divideTime_clockIn (s : State) : (divideTime s).clockIn = s.clockIn := rfl
@[simp] theorem divideTime_draws (s : State) : (divideTime s).draws = s.draws := rfl

/-! `loadTime`: 44_counter_divider.md R122. -/

@[simp] theorem loadTime_params (t : DWord) (s : State) : (loadTime t s).params = s.params := rfl
@[simp] theorem loadTime_acc (t : DWord) (s : State) : (loadTime t s).acc = s.acc := rfl
@[simp] theorem loadTime_bitcnt (t : DWord) (s : State) : (loadTime t s).bitcnt = s.bitcnt := rfl
@[simp] theorem loadTime_b32Mode (t : DWord) (s : State) : (loadTime t s).b32Mode = s.b32Mode := rfl
@[simp] theorem loadTime_b32Fail (t : DWord) (s : State) : (loadTime t s).b32Fail = s.b32Fail := rfl
@[simp] theorem loadTime_key (t : DWord) (s : State) : (loadTime t s).key = s.key := rfl
@[simp] theorem loadTime_keyLen (t : DWord) (s : State) : (loadTime t s).keyLen = s.keyLen := rfl
@[simp] theorem loadTime_keyValid (t : DWord) (s : State) : (loadTime t s).keyValid = s.keyValid := rfl
@[simp] theorem loadTime_time (t : DWord) (s : State) : (loadTime t s).time = t := rfl
@[simp] theorem loadTime_counter (t : DWord) (s : State) : (loadTime t s).counter = s.counter := rfl
@[simp] theorem loadTime_remaining (t : DWord) (s : State) : (loadTime t s).remaining = s.remaining := rfl
@[simp] theorem loadTime_counterValid (t : DWord) (s : State) : (loadTime t s).counterValid = false := rfl
@[simp] theorem loadTime_digest (t : DWord) (s : State) : (loadTime t s).digest = s.digest := rfl
@[simp] theorem loadTime_digestValid (t : DWord) (s : State) : (loadTime t s).digestValid = false := rfl
@[simp] theorem loadTime_offset (t : DWord) (s : State) : (loadTime t s).offset = s.offset := rfl
@[simp] theorem loadTime_code32 (t : DWord) (s : State) : (loadTime t s).code32 = s.code32 := rfl
@[simp] theorem loadTime_otp (t : DWord) (s : State) : (loadTime t s).otp = s.otp := rfl
@[simp] theorem loadTime_codeStr (t : DWord) (s : State) : (loadTime t s).codeStr = s.codeStr := rfl
@[simp] theorem loadTime_codeValid (t : DWord) (s : State) : (loadTime t s).codeValid = false := rfl
@[simp] theorem loadTime_errcode (t : DWord) (s : State) : (loadTime t s).errcode = s.errcode := rfl
@[simp] theorem loadTime_pending (t : DWord) (s : State) : (loadTime t s).pending = s.pending := rfl
@[simp] theorem loadTime_outstanding (t : DWord) (s : State) : (loadTime t s).outstanding = s.outstanding := rfl
@[simp] theorem loadTime_busResp (t : DWord) (s : State) : (loadTime t s).busResp = s.busResp := rfl
@[simp] theorem loadTime_rstIn (t : DWord) (s : State) : (loadTime t s).rstIn = s.rstIn := rfl
@[simp] theorem loadTime_inbox (t : DWord) (s : State) : (loadTime t s).inbox = s.inbox := rfl
@[simp] theorem loadTime_clockIn (t : DWord) (s : State) : (loadTime t s).clockIn = s.clockIn := rfl
@[simp] theorem loadTime_draws (t : DWord) (s : State) : (loadTime t s).draws = s.draws := rfl

/-! `computeDigest`: 42_hmac_sha1_engine.md R113. -/

@[simp] theorem computeDigest_params (s : State) : (computeDigest s).params = s.params := rfl
@[simp] theorem computeDigest_acc (s : State) : (computeDigest s).acc = s.acc := rfl
@[simp] theorem computeDigest_bitcnt (s : State) : (computeDigest s).bitcnt = s.bitcnt := rfl
@[simp] theorem computeDigest_b32Mode (s : State) : (computeDigest s).b32Mode = s.b32Mode := rfl
@[simp] theorem computeDigest_b32Fail (s : State) : (computeDigest s).b32Fail = s.b32Fail := rfl
@[simp] theorem computeDigest_key (s : State) : (computeDigest s).key = s.key := rfl
@[simp] theorem computeDigest_keyLen (s : State) : (computeDigest s).keyLen = s.keyLen := rfl
@[simp] theorem computeDigest_keyValid (s : State) : (computeDigest s).keyValid = s.keyValid := rfl
@[simp] theorem computeDigest_time (s : State) : (computeDigest s).time = s.time := rfl
@[simp] theorem computeDigest_counter (s : State) : (computeDigest s).counter = s.counter := rfl
@[simp] theorem computeDigest_remaining (s : State) : (computeDigest s).remaining = s.remaining := rfl
@[simp] theorem computeDigest_counterValid (s : State) : (computeDigest s).counterValid = s.counterValid := rfl
@[simp] theorem computeDigest_digest (s : State) : (computeDigest s).digest = hmacSha1 (keyBytes s) (be64 s.counter) := rfl
@[simp] theorem computeDigest_digestValid (s : State) : (computeDigest s).digestValid = true := rfl
@[simp] theorem computeDigest_offset (s : State) : (computeDigest s).offset = s.offset := rfl
@[simp] theorem computeDigest_code32 (s : State) : (computeDigest s).code32 = s.code32 := rfl
@[simp] theorem computeDigest_otp (s : State) : (computeDigest s).otp = s.otp := rfl
@[simp] theorem computeDigest_codeStr (s : State) : (computeDigest s).codeStr = s.codeStr := rfl
@[simp] theorem computeDigest_codeValid (s : State) : (computeDigest s).codeValid = s.codeValid := rfl
@[simp] theorem computeDigest_errcode (s : State) : (computeDigest s).errcode = s.errcode := rfl
@[simp] theorem computeDigest_pending (s : State) : (computeDigest s).pending = s.pending := rfl
@[simp] theorem computeDigest_outstanding (s : State) : (computeDigest s).outstanding = s.outstanding := rfl
@[simp] theorem computeDigest_busResp (s : State) : (computeDigest s).busResp = s.busResp := rfl
@[simp] theorem computeDigest_rstIn (s : State) : (computeDigest s).rstIn = s.rstIn := rfl
@[simp] theorem computeDigest_inbox (s : State) : (computeDigest s).inbox = s.inbox := rfl
@[simp] theorem computeDigest_clockIn (s : State) : (computeDigest s).clockIn = s.clockIn := rfl
@[simp] theorem computeDigest_draws (s : State) : (computeDigest s).draws = s.draws := rfl

/-! `storeTruncation`: 43_totp_truncator.md R118. -/

@[simp] theorem storeTruncation_params (s : State) : (storeTruncation s).params = s.params := rfl
@[simp] theorem storeTruncation_acc (s : State) : (storeTruncation s).acc = s.acc := rfl
@[simp] theorem storeTruncation_bitcnt (s : State) : (storeTruncation s).bitcnt = s.bitcnt := rfl
@[simp] theorem storeTruncation_b32Mode (s : State) : (storeTruncation s).b32Mode = s.b32Mode := rfl
@[simp] theorem storeTruncation_b32Fail (s : State) : (storeTruncation s).b32Fail = s.b32Fail := rfl
@[simp] theorem storeTruncation_key (s : State) : (storeTruncation s).key = s.key := rfl
@[simp] theorem storeTruncation_keyLen (s : State) : (storeTruncation s).keyLen = s.keyLen := rfl
@[simp] theorem storeTruncation_keyValid (s : State) : (storeTruncation s).keyValid = s.keyValid := rfl
@[simp] theorem storeTruncation_time (s : State) : (storeTruncation s).time = s.time := rfl
@[simp] theorem storeTruncation_counter (s : State) : (storeTruncation s).counter = s.counter := rfl
@[simp] theorem storeTruncation_remaining (s : State) : (storeTruncation s).remaining = s.remaining := rfl
@[simp] theorem storeTruncation_counterValid (s : State) : (storeTruncation s).counterValid = s.counterValid := rfl
@[simp] theorem storeTruncation_digest (s : State) : (storeTruncation s).digest = s.digest := rfl
@[simp] theorem storeTruncation_digestValid (s : State) : (storeTruncation s).digestValid = s.digestValid := rfl
@[simp] theorem storeTruncation_offset (s : State) : (storeTruncation s).offset = (truncate s.params.digits s.digest).offset := rfl
@[simp] theorem storeTruncation_code32 (s : State) : (storeTruncation s).code32 = (truncate s.params.digits s.digest).code32 := rfl
@[simp] theorem storeTruncation_otp (s : State) : (storeTruncation s).otp = (truncate s.params.digits s.digest).otp := rfl
@[simp] theorem storeTruncation_codeStr (s : State) : (storeTruncation s).codeStr = (truncate s.params.digits s.digest).codeStr := rfl
@[simp] theorem storeTruncation_codeValid (s : State) : (storeTruncation s).codeValid = true := rfl
@[simp] theorem storeTruncation_errcode (s : State) : (storeTruncation s).errcode = s.errcode := rfl
@[simp] theorem storeTruncation_pending (s : State) : (storeTruncation s).pending = s.pending := rfl
@[simp] theorem storeTruncation_outstanding (s : State) : (storeTruncation s).outstanding = s.outstanding := rfl
@[simp] theorem storeTruncation_busResp (s : State) : (storeTruncation s).busResp = s.busResp := rfl
@[simp] theorem storeTruncation_rstIn (s : State) : (storeTruncation s).rstIn = s.rstIn := rfl
@[simp] theorem storeTruncation_inbox (s : State) : (storeTruncation s).inbox = s.inbox := rfl
@[simp] theorem storeTruncation_clockIn (s : State) : (storeTruncation s).clockIn = s.clockIn := rfl
@[simp] theorem storeTruncation_draws (s : State) : (storeTruncation s).draws = s.draws := rfl

/-! `resetElements`: 40_control.md R93. -/

@[simp] theorem resetElements_params (s : State) : (resetElements s).params = s.params := rfl
@[simp] theorem resetElements_acc (s : State) : (resetElements s).acc = (State.resetOf s.params).acc := rfl
@[simp] theorem resetElements_bitcnt (s : State) : (resetElements s).bitcnt = (State.resetOf s.params).bitcnt := rfl
@[simp] theorem resetElements_b32Mode (s : State) : (resetElements s).b32Mode = (State.resetOf s.params).b32Mode := rfl
@[simp] theorem resetElements_b32Fail (s : State) : (resetElements s).b32Fail = (State.resetOf s.params).b32Fail := rfl
@[simp] theorem resetElements_key (s : State) : (resetElements s).key = (State.resetOf s.params).key := rfl
@[simp] theorem resetElements_keyLen (s : State) : (resetElements s).keyLen = (State.resetOf s.params).keyLen := rfl
@[simp] theorem resetElements_keyValid (s : State) : (resetElements s).keyValid = (State.resetOf s.params).keyValid := rfl
@[simp] theorem resetElements_time (s : State) : (resetElements s).time = (State.resetOf s.params).time := rfl
@[simp] theorem resetElements_counter (s : State) : (resetElements s).counter = (State.resetOf s.params).counter := rfl
@[simp] theorem resetElements_remaining (s : State) : (resetElements s).remaining = (State.resetOf s.params).remaining := rfl
@[simp] theorem resetElements_counterValid (s : State) : (resetElements s).counterValid = (State.resetOf s.params).counterValid := rfl
@[simp] theorem resetElements_digest (s : State) : (resetElements s).digest = (State.resetOf s.params).digest := rfl
@[simp] theorem resetElements_digestValid (s : State) : (resetElements s).digestValid = (State.resetOf s.params).digestValid := rfl
@[simp] theorem resetElements_offset (s : State) : (resetElements s).offset = (State.resetOf s.params).offset := rfl
@[simp] theorem resetElements_code32 (s : State) : (resetElements s).code32 = (State.resetOf s.params).code32 := rfl
@[simp] theorem resetElements_otp (s : State) : (resetElements s).otp = (State.resetOf s.params).otp := rfl
@[simp] theorem resetElements_codeStr (s : State) : (resetElements s).codeStr = (State.resetOf s.params).codeStr := rfl
@[simp] theorem resetElements_codeValid (s : State) : (resetElements s).codeValid = (State.resetOf s.params).codeValid := rfl
@[simp] theorem resetElements_errcode (s : State) : (resetElements s).errcode = (State.resetOf s.params).errcode := rfl
@[simp] theorem resetElements_pending (s : State) : (resetElements s).pending = s.pending := rfl
@[simp] theorem resetElements_outstanding (s : State) : (resetElements s).outstanding = s.outstanding := rfl
@[simp] theorem resetElements_busResp (s : State) : (resetElements s).busResp = s.busResp := rfl
@[simp] theorem resetElements_rstIn (s : State) : (resetElements s).rstIn = s.rstIn := rfl
@[simp] theorem resetElements_inbox (s : State) : (resetElements s).inbox = s.inbox := rfl
@[simp] theorem resetElements_clockIn (s : State) : (resetElements s).clockIn = s.clockIn := rfl
@[simp] theorem resetElements_draws (s : State) : (resetElements s).draws = s.draws := rfl

/-! `sampleClock`: 10_state.md R41. Everything but the clock input and the draw count is unchanged. -/

@[simp] theorem sampleClock_params (s : State) : (sampleClock s).2.params = s.params := by
  unfold sampleClock; split <;> rfl
@[simp] theorem sampleClock_acc (s : State) : (sampleClock s).2.acc = s.acc := by
  unfold sampleClock; split <;> rfl
@[simp] theorem sampleClock_bitcnt (s : State) : (sampleClock s).2.bitcnt = s.bitcnt := by
  unfold sampleClock; split <;> rfl
@[simp] theorem sampleClock_b32Mode (s : State) : (sampleClock s).2.b32Mode = s.b32Mode := by
  unfold sampleClock; split <;> rfl
@[simp] theorem sampleClock_b32Fail (s : State) : (sampleClock s).2.b32Fail = s.b32Fail := by
  unfold sampleClock; split <;> rfl
@[simp] theorem sampleClock_key (s : State) : (sampleClock s).2.key = s.key := by
  unfold sampleClock; split <;> rfl
@[simp] theorem sampleClock_keyLen (s : State) : (sampleClock s).2.keyLen = s.keyLen := by
  unfold sampleClock; split <;> rfl
@[simp] theorem sampleClock_keyValid (s : State) : (sampleClock s).2.keyValid = s.keyValid := by
  unfold sampleClock; split <;> rfl
@[simp] theorem sampleClock_time (s : State) : (sampleClock s).2.time = s.time := by
  unfold sampleClock; split <;> rfl
@[simp] theorem sampleClock_counter (s : State) : (sampleClock s).2.counter = s.counter := by
  unfold sampleClock; split <;> rfl
@[simp] theorem sampleClock_remaining (s : State) : (sampleClock s).2.remaining = s.remaining := by
  unfold sampleClock; split <;> rfl
@[simp] theorem sampleClock_counterValid (s : State) : (sampleClock s).2.counterValid = s.counterValid := by
  unfold sampleClock; split <;> rfl
@[simp] theorem sampleClock_digest (s : State) : (sampleClock s).2.digest = s.digest := by
  unfold sampleClock; split <;> rfl
@[simp] theorem sampleClock_digestValid (s : State) : (sampleClock s).2.digestValid = s.digestValid := by
  unfold sampleClock; split <;> rfl
@[simp] theorem sampleClock_offset (s : State) : (sampleClock s).2.offset = s.offset := by
  unfold sampleClock; split <;> rfl
@[simp] theorem sampleClock_code32 (s : State) : (sampleClock s).2.code32 = s.code32 := by
  unfold sampleClock; split <;> rfl
@[simp] theorem sampleClock_otp (s : State) : (sampleClock s).2.otp = s.otp := by
  unfold sampleClock; split <;> rfl
@[simp] theorem sampleClock_codeStr (s : State) : (sampleClock s).2.codeStr = s.codeStr := by
  unfold sampleClock; split <;> rfl
@[simp] theorem sampleClock_codeValid (s : State) : (sampleClock s).2.codeValid = s.codeValid := by
  unfold sampleClock; split <;> rfl
@[simp] theorem sampleClock_errcode (s : State) : (sampleClock s).2.errcode = s.errcode := by
  unfold sampleClock; split <;> rfl
@[simp] theorem sampleClock_pending (s : State) : (sampleClock s).2.pending = s.pending := by
  unfold sampleClock; split <;> rfl
@[simp] theorem sampleClock_outstanding (s : State) : (sampleClock s).2.outstanding = s.outstanding := by
  unfold sampleClock; split <;> rfl
@[simp] theorem sampleClock_busResp (s : State) : (sampleClock s).2.busResp = s.busResp := by
  unfold sampleClock; split <;> rfl
@[simp] theorem sampleClock_rstIn (s : State) : (sampleClock s).2.rstIn = s.rstIn := by
  unfold sampleClock; split <;> rfl
@[simp] theorem sampleClock_inbox (s : State) : (sampleClock s).2.inbox = s.inbox := by
  unfold sampleClock; split <;> rfl

end Sys2Proof.Machine
end

