-- ==== Sys2Proof/Laws/Ops.lean ====
section
/-! SUPPORT. What each shared operation can do, said once: the key buffer, the clock, the bus access, and the step. -/

namespace Sys2Proof.Machine

/-! ### Resets -/

/-- Asserting `rst` leaves the reset state around the inputs (70_reset_and_hazards.md R144). -/
theorem driveRst_asserted (s : State) :
    driveRst true s =
      { State.resetOf s.params with
        busResp := (match s.outstanding with | some r => some (slverrFor r) | none => s.busResp),
        rstIn := true, inbox := s.inbox, clockIn := s.clockIn, draws := s.draws } := by
  simp only [driveRst, abortOutstanding, resetElements, if_true]
  cases h : s.outstanding <;> simp [State.resetOf]

theorem driveRst_released (s : State) : driveRst false s = { s with rstIn := false } := by
  simp [driveRst]

/-! ### The key buffer -/

/-- Byte `i` after an append inside the buffer (41_base32_decoder.md R99, R103). -/
theorem appendKey_getD (b : Byte) (s : State) {i : Nat} (hi : i < s.key.length) :
    (appendKey b s).key.getD i 0 = if i = s.keyLen then b else s.key.getD i 0 := by
  by_cases h : s.keyLen = i
  · subst h
    simp [List.getD, hi]
  · simp [List.getD, h, Ne.symm h]

@[simp] theorem appendKey_key_length (b : Byte) (s : State) : (appendKey b s).key.length = s.key.length := by
  simp

/-! ### The accumulator -/

/-- The shift of 41_base32_decoder.md R97 as arithmetic. -/
theorem accumulate_acc (v : BitVec 5) (s : State) :
    (accumulate v s).acc = (s.acc * 32 + v.toNat) % 2 ^ s.params.accWidth := by
  have h : s.acc <<< 5 ||| v.toNat = s.acc * 32 + v.toNat := by
    rw [← Nat.shiftLeft_add_eq_or_of_lt v.isLt, Nat.shiftLeft_eq]
  simp only [accumulate, h]
  split <;> rfl

/-- Fewer than eight bits held: nothing is emitted (41_base32_decoder.md R97). -/
theorem accumulate_holds (v : BitVec 5) {s : State} (h : s.bitcnt.toNat + 5 < 8) :
    (accumulate v s).bitcnt = s.bitcnt.toNat + 5 ∧ (accumulate v s).emit = none := by
  simp [accumulate, Nat.not_le.mpr h]

/-- Eight bits or more: the top eight of the valid bits are emitted (41_base32_decoder.md R97). -/
theorem accumulate_emits (v : BitVec 5) {s : State} (h : 8 ≤ s.bitcnt.toNat + 5) :
    (accumulate v s).bitcnt = s.bitcnt.toNat + 5 - 8 ∧
      (accumulate v s).emit = some (BitVec.ofNat 8 ((accumulate v s).acc / 2 ^ (s.bitcnt.toNat + 5 - 8))) := by
  simp [accumulate, h, Nat.shiftRight_eq_div_pow]

/-! ### The clock -/

/-- A sample changes nothing but where the next sample comes from (10_state.md R41). -/
theorem sampleClock_frame (s : State) :
    (sampleClock s).2 = { s with clockIn := (sampleClock s).2.clockIn, draws := (sampleClock s).2.draws } := by
  unfold sampleClock
  split <;> rfl

/-! ### Commands -/

/-- Every command answers a next state (60_exceptions.md R134). -/
theorem exec_answers_next (i : Instr) (s : State) : ∃ t, exec i s = .next t := by
  cases i <;> exact ⟨_, rfl⟩

/-! ### Bus accesses -/

/-- What a register write changes (10_state.md R47, R51). -/
theorem writeReg_cases (r : Reg) (v : Word) (s : State) :
    writeReg r v s = s ∨ writeReg r v s = { s with pending := some v } ∨
      ∃ x : DWord, writeReg r v s = clearCounter { s with time := x } := by
  cases r <;> simp only [writeReg, true_or, or_true]
  · exact .inr (.inr ⟨_, rfl⟩)
  · exact .inr (.inr ⟨_, rfl⟩)

/-- What an access changes when it completes: nothing but the draw count, or PENDING, or TIME with the flags it clears
(20_memory.md R64, R65). -/
theorem attempt_cases {r : BusReq} {s t : State} {resp : BusResp} (h : attempt r s = some (resp, t)) :
    (∃ n, t = { s with draws := n }) ∨ (∃ v, t = { s with pending := some v }) ∨
      (∃ x : DWord, t = clearCounter { s with time := x }) := by
  have same : ∃ n, s = { s with draws := n } := ⟨s.draws, rfl⟩
  cases r with
  | read a n =>
    simp only [attempt, memRead] at h
    split at h
    · cases h
      exact .inl same
    · split at h
      · cases h
      · cases h
        refine .inl ?_
        unfold readReg
        split
        · exact ⟨_, rfl⟩
        · exact same
  | write a n v =>
    simp only [attempt, memWrite] at h
    split at h
    · cases h
      exact .inl same
    · split at h
      · cases h
      · cases h
        rcases writeReg_cases _ v s with h | h | ⟨x, h⟩
        · exact .inl (h.symm ▸ same)
        · exact .inr (.inl ⟨v, h⟩)
        · exact .inr (.inr ⟨x, h⟩)

/-- An access never waits while nothing is pending (20_memory.md R75). -/
theorem attempt_ne_none_of_idle {r : BusReq} {s : State} (h : s.pending = none) : attempt r s ≠ none := by
  have hb : busy s = false := by simp [busy, h]
  cases r with
  | read a n =>
    simp only [attempt, memRead]
    split <;> simp [hb]
  | write a n v =>
    simp only [attempt, memWrite]
    split <;> simp [hb]

/-! ### The step -/

theorem step_empty {s : State} (h : s.inbox = []) : step s = coreSide s := by
  simp [step, advance, h]

theorem step_coreTurn {s : State} {rest : List Event} (h : s.inbox = .coreTurn :: rest) :
    step s = coreSide { s with inbox := rest } := by
  simp [step, advance, h]

theorem step_rst {s : State} {b : Bool} {rest : List Event} (h : s.inbox = .rst b :: rest) :
    step s = .next (driveRst b { s with inbox := rest }) := by
  simp [step, advance, h]

theorem step_access {s : State} {r : BusReq} {rest : List Event} (h : s.inbox = .access r :: rest)
    (ho : s.outstanding = none) : step s = .next (issueAccess r { s with inbox := rest }) := by
  simp [step, advance, h, ho]

theorem step_access_blocked {s : State} {r : BusReq} {rest : List Event} (h : s.inbox = .access r :: rest)
    (ho : s.outstanding ≠ none) : step s = coreSide s := by
  simp only [step, advance, h]
  cases hs : s.outstanding with
  | none => exact absurd hs ho
  | some _ => rfl

/-- The CORE side moves: one equation for the three ways it comes to move. -/
theorem step_of_coreSideMoves {s t : State} (h : CoreSideMoves s t) : step s = coreSide t := by
  rcases h with ⟨rest, h, rfl⟩ | ⟨h, rfl⟩ | ⟨r, rest, h, ho, rfl⟩
  · exact step_coreTurn h
  · exact step_empty h
  · exact step_access_blocked h ho

/-- Every state is in exactly one of three situations: `rst` changes, an access is issued, or the CORE side moves. -/
theorem step_cases (s : State) :
    (∃ b rest, s.inbox = .rst b :: rest ∧ step s = .next (driveRst b { s with inbox := rest })) ∨
    (∃ r rest, s.inbox = .access r :: rest ∧ s.outstanding = none ∧
      step s = .next (issueAccess r { s with inbox := rest })) ∨
    (∃ t, CoreSideMoves s t ∧ step s = coreSide t) := by
  cases h : s.inbox with
  | nil => exact .inr (.inr ⟨s, .inr (.inl ⟨h, rfl⟩), step_empty h⟩)
  | cons e rest =>
    cases e with
    | coreTurn => exact .inr (.inr ⟨_, .inl ⟨rest, h, rfl⟩, step_coreTurn h⟩)
    | rst b => exact .inl ⟨b, rest, rfl, step_rst h⟩
    | access r =>
      by_cases ho : s.outstanding = none
      · exact .inr (.inl ⟨r, rest, rfl, ho, step_access h ho⟩)
      · exact .inr (.inr ⟨s, .inr (.inr ⟨r, rest, h, ho, rfl⟩), step_access_blocked h ho⟩)

/-- A turn taken off the inbox changes nothing else. -/
theorem CoreSideMoves.eq_inbox {s t : State} (h : CoreSideMoves s t) : t = { s with inbox := t.inbox } := by
  rcases h with ⟨rest, _, rfl⟩ | ⟨_, rfl⟩ | ⟨_, _, _, _, rfl⟩ <;> rfl

/-- The CORE side with a command pending, out of reset: the execution step (20_memory.md R74). -/
theorem coreSide_pending {s : State} {w : Word} (hr : s.rstIn = false) (hp : s.pending = some w) :
    coreSide s = retire (execute w s) := by
  simp [coreSide, hr, hp]

/-- The CORE side with nothing pending, out of reset. -/
theorem coreSide_idle {s : State} (hr : s.rstIn = false) (hp : s.pending = none) :
    coreSide s = .next (match s.outstanding with | some r => completeOutstanding r s | none => s) := by
  simp only [coreSide, hr, hp]
  cases s.outstanding <;> rfl

theorem coreSide_in_reset {s : State} (hr : s.rstIn = true) : coreSide s = .next (abortOutstanding s) := by
  simp [coreSide, hr]

theorem execute_ok {w : Word} {i : Instr} (s : State) (h : decode w = .ok i) : execute w s = exec i s := by
  simp [execute, h]

theorem execute_error {w : Word} {e : Illegal} (s : State) (h : decode w = .error e) :
    execute w s = .next (raiseErr .illegalCmd s) := by
  simp [execute, h]

end Sys2Proof.Machine
end

