-- ==== Sys2Proof/Laws/Bus.lean ====
section
/-! SUPPORT. The bus, said once: what a step does with the host's next access, and which registers an offset names. -/

namespace Sys2Proof.Machine

/-! ### A step with an access first in the inbox -/

theorem issueAccess_waits {s : State} {r : BusReq} (hr : s.rstIn = false) (ha : attempt r s = none) :
    issueAccess r s = { s with outstanding := some r } := by
  simp [issueAccess, hr, ha]

theorem issueAccess_done {s t : State} {r : BusReq} {resp : BusResp} (hr : s.rstIn = false)
    (ha : attempt r s = some (resp, t)) : issueAccess r s = { t with busResp := some resp } := by
  simp [issueAccess, hr, ha]

theorem issueAccess_in_reset {s : State} (r : BusReq) (hr : s.rstIn = true) :
    issueAccess r s = { s with busResp := some (slverrFor r) } := by
  simp [issueAccess, hr]

theorem HostMoves.step_waits {s : State} {r : BusReq} {rest : List Event} (h : HostMoves s r rest)
    (ha : attempt r { s with inbox := rest } = none) :
    step s = .next { s with inbox := rest, outstanding := some r } := by
  obtain ⟨hi, ho, hr⟩ := h
  rw [step_access hi ho]
  exact congrArg Host.Outcome.next (issueAccess_waits (s := { s with inbox := rest }) hr ha)

theorem HostMoves.step_done {s t : State} {r : BusReq} {rest : List Event} {resp : BusResp} (h : HostMoves s r rest)
    (ha : attempt r { s with inbox := rest } = some (resp, t)) :
    step s = .next { t with busResp := some resp } := by
  obtain ⟨hi, ho, hr⟩ := h
  rw [step_access hi ho]
  exact congrArg Host.Outcome.next (issueAccess_done (s := { s with inbox := rest }) hr ha)

/-! ### The address map -/

/-- A word of the KEY window (10_state.md R59). -/
theorem regAt_window {p : Config.Params} {off : Nat} (h : 0x100 ≤ off) (hk : off < 0x100 + p.keyMaxBytes) :
    regAt p off = some (.key ((off - 0x100) / 4)) := by
  simp [regAt, Nat.not_lt.mpr h, hk]

/-- Beyond the KEY window everything is reserved (10_state.md R60). -/
theorem regAt_beyond {p : Config.Params} {off : Nat} (h : 0x100 + p.keyMaxBytes ≤ off) : regAt p off = none := by
  simp [regAt, Nat.not_lt.mpr h, show ¬ off < 0x100 by omega]

/-- Below the KEY window the map does not depend on the parameters (20_memory.md R73). -/
theorem regAt_fixed (p : Config.Params) {off : Nat} (h : off < 0x100) : regAt p off = fixedReg off := by
  simp [regAt, h]

/-- The reserved offsets below the KEY window (10_state.md R60). -/
theorem fixedReg_reserved : ∀ off, off < 0x100 → off = 0x04C ∨ 0x064 ≤ off → fixedReg off = none := by
  decide +kernel

/-- The held, readable registers below the KEY window (20_memory.md R73). -/
theorem fixedReg_held :
    ∀ off, off < 0x100 → (0x018 ≤ off ∧ off ≤ 0x048) ∨ (0x050 ≤ off ∧ off ≤ 0x060) → off % 4 = 0 →
      (fixedReg off).any (fun r => regHeld r && !decide (regAccess r = .wo)) = true := by
  decide +kernel

/-- Only CMD, TIME_LO and TIME_HI can be written (20_memory.md R65, R73). -/
theorem writableReg_some {p : Config.Params} {a : BitVec 12} {n : Nat} {r : Reg} (h : writableReg p a n = some r) :
    (a = 0x010 ∧ r = .cmd) ∨ (a = 0x020 ∧ r = .timeLo) ∨ (a = 0x024 ∧ r = .timeHi) := by
  have fixed : ∀ off : Fin 0x100, (fixedReg off.val).all (fun r => decide (regAccess r = .ro) ||
      (off.val == 0x010 && r == .cmd) || (off.val == 0x020 && r == .timeLo) || (off.val == 0x024 && r == .timeHi)) = true := by
    decide +kernel
  unfold writableReg at h
  split at h
  · rename_i r' hr
    split at h
    · cases h
    · rename_i hro
      cases h
      unfold alignedReg at hr
      split at hr
      · by_cases hlt : a.toNat < 0x100
        · rw [regAt_fixed p hlt] at hr
          have hf := fixed ⟨a.toNat, hlt⟩
          simp only [hr, Option.all_some, hro, decide_false, Bool.false_or, Bool.or_eq_true, Bool.and_eq_true,
            beq_iff_eq] at hf
          rcases hf with (⟨ha, h⟩ | ⟨ha, h⟩) | ⟨ha, h⟩
          · exact .inl ⟨BitVec.eq_of_toNat_eq ha, h⟩
          · exact .inr (.inl ⟨BitVec.eq_of_toNat_eq ha, h⟩)
          · exact .inr (.inr ⟨BitVec.eq_of_toNat_eq ha, h⟩)
        · by_cases hw : a.toNat < 0x100 + p.keyMaxBytes
          · rw [regAt_window (Nat.not_lt.mp hlt) hw] at hr
            cases hr
            exact absurd rfl hro
          · rw [regAt_beyond (Nat.not_lt.mp hw)] at hr
            cases hr
      · cases hr
  · cases h

/-! ### Reads -/

theorem readReg_of_ne_status {r : Reg} (s : State) (h : r ≠ .status) : readReg r s = (regValue s r, s) := by
  simp [readReg, h]

theorem readReg_of_idle (r : Reg) {s : State} (h : s.pending = none) : readReg r s = (regValue s r, s) := by
  simp [readReg, busy, h]

theorem attempt_read_idle {s : State} {a : BitVec 12} {r : Reg} (hr : readableReg s.params a 4 = some r) (hp : s.pending = none) :
    attempt (.read a 4) s = some (.read .okay (regValue s r), s) := by
  simp [attempt, memRead, hr, busy, hp, readReg_of_idle r hp]

theorem attempt_read_unheld (s : State) {a : BitVec 12} {r : Reg} (hr : readableReg s.params a 4 = some r)
    (hh : regHeld r = false) : attempt (.read a 4) s = some (.read .okay (readReg r s).1, (readReg r s).2) := by
  simp [attempt, memRead, hr, hh]

theorem attempt_read_illegal (s : State) {a : BitVec 12} {n : Nat} (h : readableReg s.params a n = none) :
    attempt (.read a n) s = some (.read .slverr 0, s) := by
  simp [attempt, memRead, h]

theorem attempt_write_illegal (s : State) {a : BitVec 12} {n : Nat} (v : Word) (h : writableReg s.params a n = none) :
    attempt (.write a n v) s = some (.write .slverr, s) := by
  simp [attempt, memWrite, h]

theorem attempt_write_idle {s : State} {a : BitVec 12} {r : Reg} (v : Word) (hr : writableReg s.params a 4 = some r)
    (hp : s.pending = none) : attempt (.write a 4 v) s = some (.write .okay, writeReg r v s) := by
  simp [attempt, memWrite, hr, busy, hp]

/-- A legal read with nothing pending answers the register's value and changes nothing (20_memory.md R64). -/
theorem HostMoves.step_read_idle {s : State} {a : BitVec 12} {r : Reg} {rest : List Event}
    (h : HostMoves s (.read a 4) rest) (hr : readableReg s.params a 4 = some r) (hp : s.pending = none) :
    step s = .next { s with inbox := rest, busResp := some (.read .okay (regValue { s with inbox := rest } r)) } :=
  h.step_done (attempt_read_idle (s := { s with inbox := rest }) hr hp)

/-- The inbox is in no register. -/
theorem regValue_inbox (s : State) (rest : List Event) (r : Reg) : regValue { s with inbox := rest } r = regValue s r := by
  cases r <;> rfl

/-- A legal read of an unheld register never waits (20_memory.md R75). -/
theorem HostMoves.step_read_unheld {s : State} {a : BitVec 12} {r : Reg} {rest : List Event}
    (h : HostMoves s (.read a 4) rest) (hr : readableReg s.params a 4 = some r) (hh : regHeld r = false) :
    step s = .next { (readReg r { s with inbox := rest }).2 with
      busResp := some (.read .okay (readReg r { s with inbox := rest }).1) } :=
  h.step_done (attempt_read_unheld _ hr hh)

/-! ### STATUS -/

/-- Every field of STATUS is where 10_state.md R48 puts it. -/
theorem statusFields_get (e : BitVec 4) (m : BitVec 2) (c d n k : Bool) :
    (statusFields e m c d n k).getLsbD 0 = false ∧ (statusFields e m c d n k).getLsbD 1 = k ∧
    (statusFields e m c d n k).getLsbD 2 = n ∧ (statusFields e m c d n k).getLsbD 3 = d ∧
    (statusFields e m c d n k).getLsbD 4 = c ∧ (statusFields e m c d n k).extractLsb' 5 2 = m ∧
    (statusFields e m c d n k).getLsbD 7 = false ∧ (statusFields e m c d n k).extractLsb' 8 4 = e ∧
    (statusFields e m c d n k).extractLsb' 12 20 = 0 := by
  revert e m c d n k
  decide +kernel

theorem statusBusy_bit0 (free : BitVec 31) : (statusBusy free).getLsbD 0 = true := by
  show (free ++ 1#1 : BitVec (31 + 1)).getLsbD 0 = true
  rw [BitVec.getLsbD_append]
  rfl

end Sys2Proof.Machine
end

