-- ==== Sys2Proof/Laws/Bytes.lean ====
section
/-! SUPPORT. Lengths of the byte sequences of the algorithms, and reading one byte of an array. -/

namespace Sys2Proof.Machine

@[simp] theorem be32_length (x : Word) : (be32 x).length = 4 := rfl

@[simp] theorem be64_length (x : DWord) : (be64 x).length = 8 := rfl

@[simp] theorem blocks64_length (k : Nat) (bs : List Byte) : (blocks64 k bs).length = k := by
  induction k generalizing bs with
  | zero => rfl
  | succ k ih => simp [blocks64, ih]

@[simp] theorem extendSchedule_length (n : Nat) (ws : List Word) :
    (extendSchedule n ws).length = n + ws.length := by
  induction n generalizing ws with
  | zero => simp [extendSchedule]
  | succ n ih => simp [extendSchedule, ih]; omega

theorem sha1Pad_length (m : List Byte) :
    (sha1Pad m).length = m.length + 1 + (119 - m.length % 64) % 64 + 8 := by
  simp [sha1Pad]
  omega

/-- A big-endian word is the number its bytes spell (42_hmac_sha1_engine.md R107, 43_totp_truncator.md R115). -/
theorem beWord_toNat (b0 b1 b2 b3 : Byte) :
    (beWord b0 b1 b2 b3).toNat = b0.toNat * 2 ^ 24 + b1.toNat * 2 ^ 16 + b2.toNat * 2 ^ 8 + b3.toNat := by
  show (b0 ++ b1 ++ b2 ++ b3 : BitVec (8 + 8 + 8 + 8)).toNat = _
  rw [BitVec.toNat_append, BitVec.toNat_append, BitVec.toNat_append, ← Nat.shiftLeft_add_eq_or_of_lt b1.isLt,
    ← Nat.shiftLeft_add_eq_or_of_lt b2.isLt, ← Nat.shiftLeft_add_eq_or_of_lt b3.isLt]
  simp only [Nat.shiftLeft_eq]
  omega

theorem hmacKey_length_le (k : List Byte) : (hmacKey k).length ≤ 64 := by
  unfold hmacKey
  split
  · simp
  · omega

/-- A byte inside an array. -/
theorem byteAt_eq {n : Nat} (v : Vector Byte n) (i : Nat) (h : i < n) : byteAt v i = v[i] := by
  simp [byteAt, List.getD, h]

@[simp] theorem byteAt_replicate_zero (n i : Nat) : byteAt (Vector.replicate n (0 : Byte)) i = 0 := by
  unfold byteAt
  by_cases h : i < n <;> simp [List.getD, h]

/-! ### Lanes and halves -/

/-- Lane `j` of a word on the bus is byte `4k + j` of the array (20_memory.md R68, R69). -/
theorem lanesWord_lane (bs : List Byte) (k : Nat) (j : Fin 4) :
    (lanesWord bs k).extractLsb' (8 * j.val) 8 = bs.getD (4 * k + j.val) 0 := by
  have lane (b0 b1 b2 b3 : Byte) :
      (b3 ++ b2 ++ b1 ++ b0 : BitVec 32).extractLsb' (8 * j.val) 8 =
        if j = 0 then b0 else if j = 1 then b1 else if j = 2 then b2 else b3 := by
    have h0 := b0.isLt
    have h1 := b1.isLt
    have h2 := b2.isLt
    have h3 := b3.isLt
    apply BitVec.eq_of_toNat_eq
    have hw : (b3 ++ b2 ++ b1 ++ b0 : BitVec 32).toNat = _ := beWord_toNat b3 b2 b1 b0
    rw [BitVec.extractLsb'_toNat, hw, Nat.shiftRight_eq_div_pow]
    fin_cases j <;> simp <;> omega
  refine (lane _ _ _ _).trans ?_
  fin_cases j <;> rfl

theorem loWord_toNat (x : DWord) : (loWord x).toNat = x.toNat % 2 ^ 32 := by
  simp [loWord]

theorem hiWord_toNat (x : DWord) : (hiWord x).toNat = x.toNat / 2 ^ 32 := by
  have h := x.isLt
  simp only [hiWord, BitVec.extractLsb'_toNat, Nat.shiftRight_eq_div_pow]
  omega

theorem joinWords_toNat (hi lo : Word) : (joinWords hi lo).toNat = hi.toNat * 2 ^ 32 + lo.toNat := by
  show (hi ++ lo : BitVec (32 + 32)).toNat = _
  rw [BitVec.toNat_append, ← Nat.shiftLeft_add_eq_or_of_lt lo.isLt, Nat.shiftLeft_eq]

end Sys2Proof.Machine
end

