-- ==== Sys2Proof/Laws/PerInstr.lean ====
section
/-! SUPPORT. What holds of every command as syntax, one lemma a constructor (LAWS.json). -/

namespace Sys2Proof.Laws.EncodedFields

/-- A command's word has the OP of the opcode map, RSVD 0, the command's operand in IMM8, and is well formed
(30_encoding.md R82-R85). -/
def Statement (i : Instr) : Prop :=
  opField (encode i) = opcodeOf i ∧ rsvdField (encode i) = 0 ∧ immField (encode i) = operandOf i ∧
    (RawCmd.ofWord (encode i)).wellFormed = true

theorem nop : Statement .nop := by unfold Statement; decide
theorem sreset : Statement .sreset := by unfold Statement; decide
theorem b32Start : Statement .b32Start := by unfold Statement; decide
theorem b32Char : ∀ imm : Byte, Statement (.b32Char imm) := by unfold Statement; decide +kernel
theorem b32End : Statement .b32End := by unfold Statement; decide
theorem keyClear : Statement .keyClear := by unfold Statement; decide
theorem keyByte : ∀ imm : Byte, Statement (.keyByte imm) := by unfold Statement; decide +kernel
theorem timeNow : Statement .timeNow := by unfold Statement; decide
theorem div : Statement .div := by unfold Statement; decide
theorem remainNow : Statement .remainNow := by unfold Statement; decide
theorem hmac : Statement .hmac := by unfold Statement; decide
theorem trunc : Statement .trunc := by unfold Statement; decide
theorem genAt : Statement .genAt := by unfold Statement; decide
theorem genNow : Statement .genNow := by unfold Statement; decide

end Sys2Proof.Laws.EncodedFields
end

