-- ==== Sys2Proof/Tests/Slice0.lean ====
section
/-! SUPPORT. Tests, each about one step, with expected values of 30_encoding.md, 95_test_vectors.md and the examples of the
rules; then, for every obligation with hypotheses, a witness that meets them. -/

namespace Sys2Proof.Machine.Tests

-- Checked one after another: each kernel evaluation in a thread of its own would ask for too many threads.
set_option Elab.async false

/-! ### Helpers -/

/-- The key buffer that holds some bytes and zeros. -/
def keyOf (bs : List Byte) : List Byte := (bs ++ List.replicate 256 0).take 256

/-- A digest from its bytes written as one number. -/
def digestOf (n : Nat) : Vector Byte 20 := ⟨((List.range 20).map fun i => BitVec.ofNat 8 (n / 2 ^ (152 - 8 * i))).toArray, by simp⟩

/-- `K20` of 95_test_vectors.md. -/
def k20 : List Byte := (List.range 20).map fun i => BitVec.ofNat 8 (0x30 + (i + 1) % 10)

/-- A valid key and a time. -/
def loaded (bs : List Byte) (t : DWord) : State :=
  { State.reset with key := keyOf bs, keyLen := bs.length, keyValid := true, time := t }

/-- A session with some bits and bytes already taken. -/
def session (acc : Nat) (n : BitVec 4) (bs : List Byte) : State :=
  { State.reset with b32Mode := .active, acc := acc, bitcnt := n, key := keyOf bs, keyLen := bs.length }

/-- A failed session. -/
def failedSession : State := { State.reset with b32Mode := .failed, b32Fail := .invalidCharacter }

/-- This hardware, and an elaboration with the smallest key buffer (00_scope.md R6). -/
abbrev hw : Config.Params := Config.hardware

/-- TIME_STEP 60, DIGITS 8, KEY_MAX_BYTES 68, ACC_WIDTH 64. -/
def small : Config.Params := { timeStep := 60, digits := 8, keyMaxBytes := 68, accWidth := 64 }

/-- A valid key and a time in that elaboration. -/
def loadedSmall (bs : List Byte) (t : DWord) : State :=
  { State.resetOf small with
    key := (bs ++ List.replicate 68 0).take 68, keyLen := bs.length, keyValid := true, time := t }

/-- A session in that elaboration. -/
def sessionSmall (acc : Nat) (n : BitVec 4) (bs : List Byte) : State :=
  { State.resetOf small with
    b32Mode := .active, acc := acc, bitcnt := n, key := (bs ++ List.replicate 68 0).take 68, keyLen := bs.length }

/-- The state a step answers, and the state itself where none is. -/
def stateOf (s : State) (o : Host.Outcome State Fault Refusal) : State :=
  match o with
  | .next t => t
  | .fault _ => s
  | .refused _ => s

/-- The state after the next step, with a command word pending. -/
def after (w : Word) (s : State) : State := stateOf s (step (placeCommand w s))

/-- The state after the next step, with an access to be issued. -/
def onBus (r : BusReq) (s : State) : State := stateOf s (step { s with inbox := [.access r] })

/-- STATUS and B32_STATE. -/
def views (s : State) : Word × Word := (regValue s .status, regValue s .b32State)

/-! ### WellFormed: one ill-formed term a check -/

theorem test_wellFormed_command : (RawCmd.ofWord 0x11000041).wellFormed = true := by decide
theorem test_refuses_unassigned_op : (RawCmd.ofWord 0xFF000000).wellFormed = false := by decide
theorem test_refuses_reserved_bits : (RawCmd.ofWord 0x11010041).wellFormed = false := by decide
theorem test_refuses_stray_operand : (RawCmd.ofWord 0x40000001).wellFormed = false := by decide
theorem test_wellFormed_reg :
    (Reg.codeStr 2).wellFormed hw = true ∧ (Reg.digest 4).wellFormed hw = true ∧ (Reg.key 63).wellFormed hw = true := by decide
theorem test_refuses_codeStr_word : (Reg.codeStr 3).wellFormed hw = false := by decide
theorem test_refuses_digest_word : (Reg.digest 5).wellFormed hw = false := by decide
theorem test_refuses_key_word : (Reg.key 64).wellFormed hw = false ∧ (Reg.key 17).wellFormed small = false := by decide
theorem test_refuses_raw_offset : (AsmPlace.raw 4096).wellFormed hw = false := by decide
theorem test_refuses_imm8 : (AsmOp.b32Char 256).wellFormed hw = false ∧ (AsmOp.keyByte 256).wellFormed hw = false := by decide
theorem test_refuses_imm32 : (AsmOp.wr (.name .cmd) (2 ^ 32)).wellFormed hw = false := by decide
theorem test_refuses_place : (AsmOp.rd (.raw 4096)).wellFormed hw = false ∧ (AsmOp.wr (.name (.key 64)) 0).wellFormed hw = false := by
  decide
theorem test_refuses_non_ascii : (AsmOp.b32Str [0xC4]).wellFormed hw = false ∧ (AsmOp.keyStr [0x80]).wellFormed hw = false := by decide
theorem test_refuses_wide_time : (AsmOp.timeSet (2 ^ 64)).wellFormed hw = false ∧ (AsmOp.genAtTime (2 ^ 64)).wellFormed hw = false := by
  decide
theorem test_assembler_refuses : assembleProgram hw [.nop, .b32Char 300] = none := by decide

/-! ### Decode: the words of 30_encoding.md R91, and E-1 to E-8 of 95_test_vectors.md -/

theorem test_decode_nop : decode 0x00000000 = .ok .nop := by decide
theorem test_decode_sreset : decode 0x01000000 = .ok .sreset := by decide
theorem test_decode_b32Start : decode 0x10000000 = .ok .b32Start := by decide
theorem test_decode_b32Char : decode 0x1100004A = .ok (.b32Char 0x4A) := by decide
theorem test_decode_b32End : decode 0x12000000 = .ok .b32End := by decide
theorem test_decode_keyClear : decode 0x18000000 = .ok .keyClear := by decide
theorem test_decode_keyByte : decode 0x19000031 = .ok (.keyByte 0x31) := by decide
theorem test_decode_timeNow : decode 0x20000000 = .ok .timeNow := by decide
theorem test_decode_div : decode 0x21000000 = .ok .div := by decide
theorem test_decode_remainNow : decode 0x22000000 = .ok .remainNow := by decide
theorem test_decode_hmac : decode 0x30000000 = .ok .hmac := by decide
theorem test_decode_trunc : decode 0x38000000 = .ok .trunc := by decide
theorem test_decode_genAt : decode 0x40000000 = .ok .genAt := by decide
theorem test_decode_genNow : decode 0x41000000 = .ok .genNow := by decide
theorem test_decode_gaps :
    ([0x02000000, 0x13000000, 0x1A000000, 0x23000000, 0x31000000, 0x39000000, 0x42000000] : List Word).all
      (fun w => decode w = .error .unassignedOp) = true := by decide
theorem test_decode_illegal :
    decode 0x11010041 = .error .reservedBits ∧ decode 0x41000001 = .error .strayOperand := by decide
theorem test_tableWord : decodeTableWord 32 0x190000FF = some (.keyByte 0xFF) ∧ decodeTableWord 32 0x00000001 = none := by decide
theorem test_fetch_first_after_reset :
    (stateOf State.reset (step (State.reset.withFetchWord 32 0x10000000))).b32Mode = .active := by decide +kernel

/-! ### Commands -/

/-- R92's example and C-1. -/
theorem test_nop :
    views (after 0x00000000 { State.reset with errcode := .invalidCharacter, b32Fail := .invalidCharacter }) =
      (0x000, 0x00010000) := by decide +kernel

/-- C-3. -/
theorem test_sreset :
    let s := after 0x01000000 (loaded k20 59)
    (regValue s .keyLen, regValue s (.key 0), s.key.getD 0 0, regValue s .timeLo, views s) = (0, 0, 0, 0, 0, 0) := by decide +kernel

/-- B-22, with COUNTER_VALID and DIGEST_VALID set before. -/
theorem test_b32Start :
    views (after 0x10000000 { loaded k20 59 with counterValid := true, digestValid := true }) = (0x024, 0) := by decide +kernel

/-- R99's example: the second character, in lower case, emits 0x48. -/
theorem test_b32Char_emits :
    (after 0x11000062 (session 9 5 [])).key.getD 0 0 = 0x48 ∧ views (after 0x11000062 (session 9 5 [])) = (0x020, 0x00000102) := by
  decide +kernel

/-- L1-3: `'1'` after the partial key 0x43 0x6A 0x05 0xA0. -/
theorem test_b32Char_fails_closed :
    let s := after 0x11000031 (session 3 3 [0x43, 0x6A, 0x05, 0xA0])
    (views s, s.keyLen, s.key.getD 0 0, s.key.getD 3 0, s.acc) = ((0x140, 0x00010000), 0, 0, 0, 0) := by decide +kernel

/-- B-6: one symbol `B` leaves RESID 1 and an empty valid key. -/
theorem test_b32End : views (after 0x12000000 (session 1 5 [])) = (0x002, 0x00000105) := by decide +kernel

/-- L1-3, last row. -/
theorem test_b32End_failed : views (after 0x12000000 failedSession) = (0x100, 0x00010000) := by decide +kernel

/-- K-1. -/
theorem test_keyClear : views (after 0x18000000 State.reset) = (0x002, 0) := by decide +kernel

/-- B-16. -/
theorem test_keyClear_in_session : views (after 0x18000000 (session 0 0 [])) = (0x620, 0) := by decide +kernel

/-- K-6: appending destroys digest and code, not the counter. -/
theorem test_keyByte :
    let s := after 0x19000000 { loaded k20 59 with counterValid := true, digestValid := true, codeValid := true }
    s.keyLen = 21 ∧ views s = (0x006, 0) := by decide +kernel

/-- K-4. -/
theorem test_keyByte_overflow :
    let s := after 0x190000AA (loaded (List.replicate 256 7) 0)
    (views s, s.keyLen, s.key.getD 0 0, s.key.getD 255 0) = ((0x400, 0), 0, 0, 0) := by decide +kernel

/-- D-11. -/
theorem test_timeNow :
    let s := after 0x20000000 { State.reset with clockIn := [some 1111111111] }
    (regValue s .timeLo, regValue s .timeHi, regValue s .status) = (0x423A35C7, 0, 0x000) := by decide +kernel

/-- D-12. -/
theorem test_timeNow_fails :
    let s := after 0x20000000
      { loaded k20 59 with counterValid := true, digestValid := true, codeValid := true, clockIn := [none] }
    (regValue s .timeLo, regValue s .status, s.clockIn) = (59, 0x21E, []) := by decide +kernel

/-- D-10. -/
theorem test_div :
    let s := after 0x21000000 { State.reset with time := 0xFFFFFFFFFFFFFFFF }
    (regValue s .counterLo, regValue s .counterHi, regValue s .remaining, regValue s .status) =
      (0x88888888, 0x08888888, 15, 0x004) := by decide +kernel

/-- D-14: a multiple of the time step gives the whole step. -/
theorem test_remainNow :
    let s := after 0x22000000 { State.reset with clockIn := [some 1234567890] }
    (regValue s .remaining, regValue s .status, regValue s .timeLo, regValue s .counterLo) = (30, 0, 0, 0) := by decide +kernel

/-- D-15. -/
theorem test_remainNow_fails :
    let s := after 0x22000000 { State.reset with remaining := 21, clockIn := [none] }
    (regValue s .remaining, regValue s .status) = (21, 0x200) := by decide +kernel

/-- R113's example. -/
theorem test_hmac :
    (after 0x30000000 { loaded k20 59 with counter := 1, counterValid := true }).digest =
      digestOf 0x75a48a19d4cbe100644e8ac1397eea747a2d33ab := by decide +kernel

/-- H-11: NO_KEY before the counter is looked at. -/
theorem test_hmac_no_key : views (after 0x30000000 { State.reset with counterValid := true }) = (0x504, 0) := by decide +kernel

/-- T-4. -/
theorem test_trunc :
    let s := after 0x38000000
      { State.reset with digest := digestOf 0x6c57b3222f9738bea0f4ab4cbbaa0cd83551994c, digestValid := true }
    (regValue s .offset, regValue s .code32, regValue s .otp, regValue s (.codeStr 0), regValue s (.codeStr 1),
      regValue s (.codeStr 2)) = (12, 0x3BAA0CD8, 152, 0x31303030, 0x00003235, 0) := by decide +kernel

/-- T-7. -/
theorem test_trunc_sequence : views (after 0x38000000 State.reset) = (0x600, 0) := by decide +kernel

/-- L1-10, with its register views. -/
theorem test_genAt :
    let s := after 0x40000000 (loaded k20 20000000000)
    (regValue s .counterLo, regValue s .remaining, regValue s .offset, regValue s .code32, regValue s .otp,
      regValue s (.codeStr 0), regValue s (.codeStr 1), regValue s (.digest 0), regValue s (.digest 4), regValue s .status) =
      (0x27BC86AA, 10, 10, 0x575783AA, 353130, 0x31333533, 0x00003033, 0x7EE907AB, 0x0A55D85E, 0x01E) := by decide +kernel

/-- G-2. -/
theorem test_genAt_no_key : views (after 0x40000000 State.reset) = (0x500, 0) := by decide +kernel

/-- G-5. -/
theorem test_genNow :
    let s := after 0x41000000 { loaded k20 0 with clockIn := [some 2000000000] }
    (regValue s .timeLo, regValue s .counterLo, regValue s .remaining, regValue s .otp, regValue s .status) =
      (0x77359400, 66666666, 10, 279037, 0x01E) := by decide +kernel

/-- G-3: the sample is not consumed. -/
theorem test_genNow_no_key :
    let s := after 0x41000000 { State.reset with clockIn := [none] }
    (views s, s.clockIn) = ((0x500, 0), [none]) := by decide +kernel

/-! ### The algorithms -/

/-- S-2. -/
theorem test_sha1 : sha1 [0x61, 0x62, 0x63] = digestOf 0xa9993e364706816aba3e25717850c26c9cd0d89d := by decide +kernel

/-- S-5: 56 bytes, two blocks. -/
theorem test_sha1_two_blocks :
    sha1 (List.replicate 56 0x61) = digestOf 0xc2db330f6083854c99d4b5bfb6e8f29f201be699 := by decide +kernel

/-- H-4b: a key of 65 bytes is hashed first. -/
theorem test_hmac_long_key :
    hmacSha1 ((List.range 65).map (BitVec.ofNat 8)) (be64 1) = digestOf 0x7f7bb6b53d6f4de3e5d25fddfe356529487057dc := by
  decide +kernel

/-- T-5 at DIGITS = 10 and TIME_STEP = 2^32 - 1, the parameter vectors of 95_test_vectors.md. -/
theorem test_parameters :
    (truncate 10 (digestOf 0x75a48a19d4cbe100644e8ac1397eea747a2d33ab)).otp = 1094287082 ∧
    counterOf (2 ^ 32 - 1) 0xFFFFFFFFFFFFFFFF = 0x100000001 ∧ remainingOf (2 ^ 32 - 1) 0xFFFFFFFFFFFFFFFF = 4294967295 ∧
    Config.hardware.legal = true := by decide +kernel

/-! ### Another elaboration: TIME_STEP 60, DIGITS 8, KEY_MAX_BYTES 68 -/

/-- The parameter vector of TIME_STEP 60 at 1111111111. -/
theorem test_time_step_60 :
    let s := after 0x40000000 (loadedSmall k20 1111111111)
    (regValue s .counterLo, regValue s .remaining, (regValue s .otp).toNat % 10 ^ 6, regValue s .status) =
      (18518518, 29, 360094, 0x01E) := by decide +kernel

/-- The parameter vector of DIGITS 8: the digest of K20 at counter 1. -/
theorem test_digits_8 :
    let s := after 0x38000000
      { State.resetOf small with digest := digestOf 0x75a48a19d4cbe100644e8ac1397eea747a2d33ab, digestValid := true }
    (regValue s .otp, regValue s (.codeStr 0), regValue s (.codeStr 1), regValue s (.codeStr 2)) =
      (94287082, 0x38323439, 0x32383037, 0) := by decide +kernel

/-- B-26: the 110th symbol still fits. -/
theorem test_key_68_fits :
    let s := after 0x11000037 (sessionSmall 1 1 (List.replicate 68 0xFF))
    (s.keyLen, regValue s .status, s.bitcnt, s.acc) = (68, 0x020, 6, 0x3F) := by decide +kernel

/-- B-27: the 111th symbol does not. -/
theorem test_key_68_overflow :
    let s := after 0x11000037 (sessionSmall 0x3F 6 (List.replicate 68 0xFF))
    (s.keyLen, regValue s .status, s.key) = (0, 0x440, List.replicate 68 0) := by decide +kernel

/-- The copies of the parameters, and the end of the KEY window (10_state.md R44-R46, R59, R60). -/
theorem test_bus_parameters :
    ([(0x004, 60), (0x008, 8), (0x00C, 68), (0x140, 0)] : List (BitVec 12 × Word)).all
      (fun p => (onBus (.read p.1 4) (loadedSmall k20 59)).busResp = some (.read .okay p.2)) = true ∧
    (onBus (.read 0x144 4) (loadedSmall k20 59)).busResp = some (.read .slverr 0) := by decide +kernel

/-! ### The bus -/

/-- M-1 to M-5, M-7, M-8, M-11. -/
theorem test_bus_errors :
    ([.read 0x010 4, .read 0x04C 4, .read 0x064 4, .read 0x200 4, .read 0x000 1, .read 0x002 4] : List BusReq).all
      (fun r => (onBus r (loaded k20 59)).busResp = some (.read .slverr 0)) = true ∧
    ([.write 0x014 4 0, .write 0x02C 4 1, .write 0x020 2 1] : List BusReq).all
      (fun r => (onBus r (loaded k20 59)).busResp = some (.write .slverr)) = true := by decide +kernel

/-- M-6, M-9, M-10 and the KEY window of L1-1. -/
theorem test_bus_reads :
    ([(0x000, 0x50544F54), (0x004, 0x1E), (0x008, 6), (0x00C, 0x100), (0x01C, 20), (0x100, 0x34333231),
      (0x110, 0x30393837), (0x1FC, 0)] : List (BitVec 12 × Word)).all
      (fun p => (onBus (.read p.1 4) (loaded k20 59)).busResp = some (.read .okay p.2)) = true := by decide +kernel

/-- Z-1: the split write of TIME. -/
theorem test_bus_split_time :
    let s := onBus (.write 0x024 4 4) { loaded k20 59 with counterValid := true }
    (s.time, regValue s .status, s.busResp) = (0x000000040000003B, 0x002, some (.write .okay)) := by decide +kernel

/-- A CMD write sets PENDING (10_state.md R47); a held read then waits (20_memory.md R75). -/
theorem test_bus_hold :
    (onBus (.write 0x010 4 0x21000000) State.reset).pending = some 0x21000000 ∧
    let s := onBus (.read 0x028 4) { State.reset with pending := some 0x21000000 }
    (s.pending, s.outstanding, s.busResp) = (some 0x21000000, some (.read 0x028 4), none) := by decide +kernel

/-- 70_reset_and_hazards.md R144: pending word and waiting access are cut off. -/
theorem test_rst :
    let s := stateOf State.reset (step { loaded k20 59 with
      pending := some 0x40000000, outstanding := some (.read 0x03C 4), inbox := [.rst true] })
    (s.pending, s.outstanding, s.busResp, s.rstIn, s.key.getD 0 0, s.time) =
      (none, none, some (.read .slverr 0), true, 0, 0) := by decide +kernel

/-- 30_encoding.md R89, R90. -/
theorem test_assembly :
    assemble hw (.genAtTime 20000000000) =
      some [.write 0x020 4 0xA817C800, .write 0x024 4 0x4, .write 0x010 4 0x40000000] ∧
    assemble hw (.b32Str []) = some [.write 0x010 4 0x10000000, .write 0x010 4 0x12000000] ∧
    assemble hw .sync = some [.read 0x01C 4] ∧
    assemble hw (.rd (.name (.key 1))) = some [.read 0x104 4] := by decide +kernel

/-! ### Witnesses: the hypotheses of each obligation can be met, clause by clause -/

/-- A pending word, the CORE side to move, out of reset. -/
def ready (w : Word) : State := { State.reset with pending := some w }

/-- The host about to issue an access, out of reset. -/
def hosting (r : BusReq) (s : State) : State := { s with inbox := [.access r] }

theorem ready_moves (w : Word) : CoreSideMoves (ready w) (ready w) := .inr (.inl ⟨rfl, rfl⟩)

theorem ready_turn (w : Word) : CoreSideMoves { ready w with inbox := [.coreTurn] } (ready w) := .inl ⟨[], rfl, rfl⟩

theorem ready_blocked (w : Word) :
    CoreSideMoves { ready w with inbox := [.access (.read 0 4)], outstanding := some (.read 0x01C 4) }
      { ready w with inbox := [.access (.read 0 4)], outstanding := some (.read 0x01C 4) } :=
  .inr (.inr ⟨.read 0 4, [], rfl, by simp, rfl⟩)

theorem hosting_moves {s : State} (r : BusReq) (ho : s.outstanding = none) (hr : s.rstIn = false) :
    HostMoves (hosting r s) r [] := ⟨rfl, ho, hr⟩

/-- An access that has waited, with a further access listed behind it. -/
def waiting (r : BusReq) (s : State) : State := { s with outstanding := some r, inbox := [.access (.read 0 4)] }

theorem waiting_moves (r : BusReq) (s : State) : CoreSideMoves (waiting r s) (waiting r s) :=
  .inr (.inr ⟨_, _, rfl, by simp [waiting], rfl⟩)

/-- The invariants hold in a state with every valid flag set. -/
def generated : State := after 0x40000000 (loaded k20 59)

theorem witness_Invariants_valid : generated.codeValid = true ∧ Invariants { generated with pending := some 0x21000000 } := by
  refine ⟨by decide +kernel, ?_⟩
  constructor
  case digest_fresh => exact fun _ => ⟨by decide +kernel, by decide +kernel, by decide +kernel⟩
  case code_fresh => exact fun _ => ⟨by decide +kernel, by decide +kernel⟩
  all_goals decide +kernel

theorem witness_Invariants_session : Invariants (session 3 3 [0x43]) := by
  constructor <;> decide +kernel

theorem witness_StepKeepsInvariants :
    Invariants { generated with pending := some 0x21000000 } ∧ ∃ t, step { generated with pending := some 0x21000000 } = .next t :=
  ⟨witness_Invariants_valid.2, _, rfl⟩

theorem witness_StepKeepsHeldInReset :
    HeldInReset { State.reset with rstIn := true, inbox := [.access (.read 0 4)] } ∧
      ∃ t, step { State.reset with rstIn := true, inbox := [.access (.read 0 4)] } = .next t :=
  ⟨fun _ => rfl, _, rfl⟩

/-- Unassigned OP at the ends of the map, a reserved bit at each end, a stray operand. -/
theorem witness_IllegalWord (w : Word) (h : w ∈ ([0x02000000, 0xFF000000, 0x10000100, 0x10800000, 0x00000001] : List Word)) :
    CoreSideMoves (ready w) (ready w) ∧ (ready w).rstIn = false ∧ (ready w).pending = some w ∧
      (w.extractLsb' 24 8 ∉ assignedOps ∨ w.extractLsb' 8 16 ≠ 0 ∨
        (w.extractLsb' 24 8 ≠ 0x11 ∧ w.extractLsb' 24 8 ≠ 0x19 ∧ w.extractLsb' 0 8 ≠ 0)) := by
  refine ⟨ready_moves w, rfl, rfl, ?_⟩
  simp only [List.mem_cons, List.not_mem_nil, or_false] at h
  rcases h with rfl | rfl | rfl | rfl | rfl <;> decide

/-- A legal word of each kind, in a state that meets the invariants. -/
theorem witness_LegalWord (w : Word) (h : w ∈ ([0x00000000, 0x41000000, 0x110000FF, 0x190000FF] : List Word)) :
    (w.extractLsb' 24 8 ∈ assignedOps ∧ w.extractLsb' 8 16 = 0 ∧
      (w.extractLsb' 24 8 = 0x11 ∨ w.extractLsb' 24 8 = 0x19 ∨ w.extractLsb' 0 8 = 0)) ∧ Invariants (ready w) := by
  simp only [List.mem_cons, List.not_mem_nil, or_false] at h
  rcases h with rfl | rfl | rfl | rfl <;> refine ⟨by decide, ?_⟩ <;> constructor <;> decide +kernel

theorem witness_StepRunsDecodedCommand :
    CoreSideMoves (ready 0x21000000) (ready 0x21000000) ∧ (ready 0x21000000).rstIn = false ∧
      (ready 0x21000000).pending = some 0x21000000 ∧ decode 0x21000000 = .ok .div :=
  ⟨ready_moves _, rfl, rfl, by decide⟩

theorem witness_EveryStepAnswersNext :
    CoreSideMoves { ready 0 with inbox := [.coreTurn] } (ready 0) ∧ (ready 0).rstIn = false ∧ (ready 0).pending ≠ none :=
  ⟨ready_turn 0, rfl, by simp [ready]⟩

theorem witness_CharOutsideActiveSession : State.reset.b32Mode = .idle ∧ failedSession.b32Mode = .failed := ⟨rfl, rfl⟩

theorem witness_PaddingIsDropped : (session 0 0 []).b32Mode = .active := rfl

/-- The bytes just outside the ranges of the alphabet. -/
theorem witness_InvalidCharFailsClosed (c : Byte) (h : c ∈ ([0x00, 0x31, 0x38, 0x40, 0x5B, 0x60, 0x7B, 0xFF] : List Byte)) :
    (session 0 0 []).b32Mode = .active ∧ c ≠ 0x3D ∧
      (¬ (0x41 ≤ c.toNat ∧ c.toNat ≤ 0x5A) ∧ ¬ (0x61 ≤ c.toNat ∧ c.toNat ≤ 0x7A) ∧ ¬ (0x32 ≤ c.toNat ∧ c.toNat ≤ 0x37)) := by
  refine ⟨rfl, ?_⟩
  simp only [List.mem_cons, List.not_mem_nil, or_false] at h
  rcases h with rfl | rfl | rfl | rfl | rfl | rfl | rfl | rfl <;> decide

/-- Both clauses at their boundary: 7 bits after the character, and 8; the last free byte of the buffer. -/
theorem witness_CharShiftsInAndEmits :
    (∀ n : BitVec 4, n = 2 ∨ n = 3 →
      KeyFits (session 0 n (List.replicate 255 1)) ∧ (session 0 n (List.replicate 255 1)).b32Mode = .active ∧ (0x7A : Byte) ≠ 0x3D ∧ b32Value (fold 0x7A) = some 25 ∧
        ¬ (8 ≤ (session 0 n (List.replicate 255 1)).bitcnt.toNat + 5 ∧ (session 0 n (List.replicate 255 1)).keyLen = hw.keyMaxBytes)) ∧
    (2#4).toNat + 5 < 8 ∧ 8 ≤ (3#4).toNat + 5 := by
  refine ⟨?_, by decide, by decide⟩
  rintro n (rfl | rfl) <;> exact ⟨by decide +kernel, rfl, by decide, by decide, by decide +kernel⟩

theorem witness_CharOverflowFailsClosed :
    (session 0 3 (List.replicate 256 0xFF)).b32Mode = .active ∧ isSymbol 0x37 = true ∧
      8 ≤ (session 0 3 (List.replicate 256 0xFF)).bitcnt.toNat + 5 ∧ (session 0 3 (List.replicate 256 0xFF)).keyLen = hw.keyMaxBytes := by
  decide +kernel

theorem witness_EndClosesSession :
    State.reset.b32Mode = .idle ∧ failedSession.b32Mode = .failed ∧ (session 1 5 []).b32Mode = .active := ⟨rfl, rfl, rfl⟩

theorem witness_KeyClearStartsEmptyKey : (loaded k20 0).b32Mode = .idle ∧ failedSession.b32Mode ≠ .idle := by decide +kernel

theorem witness_KeyByteAppendsByte :
    (session 0 0 []).b32Mode ≠ .idle ∧
    ((loaded (List.replicate 256 0) 0).b32Mode = .idle ∧ (loaded (List.replicate 256 0) 0).keyLen = hw.keyMaxBytes) ∧
    (KeyFits (loaded (List.replicate 255 0) 0) ∧ (loaded (List.replicate 255 0) 0).b32Mode = .idle ∧
      (loaded (List.replicate 255 0) 0).keyLen ≠ hw.keyMaxBytes) := by decide +kernel

/-- Lower case, padding in the middle, and the longest string that fits this hardware's buffer. -/
theorem witness_SessionClosedForm : 12 ≤ hw.accWidth ∧
    ((∀ c ∈ ([0x6D, 0x3D, 0x45] : List Byte), c ≠ 0x3D → isSymbol c = true) ∧
      5 * (symbolValues [0x6D, 0x3D, 0x45]).length / 8 ≤ hw.keyMaxBytes) ∧
    ((∀ c ∈ List.replicate 411 (0x37 : Byte), c ≠ 0x3D → isSymbol c = true) ∧
      5 * (symbolValues (List.replicate 411 0x37)).length / 8 = hw.keyMaxBytes) := by decide +kernel

theorem witness_InvalidStringLeavesNoKey :
    (∀ c ∈ ([0x41, 0x42] : List Byte), c ≠ 0x3D → isSymbol c = true) ∧ 5 * (symbolValues [0x41, 0x42]).length / 8 ≤ hw.keyMaxBytes ∧
      (0x31 : Byte) ≠ 0x3D ∧ isSymbol 0x31 = false := by decide +kernel

theorem witness_CounterAndRemainingExact : 1 ≤ 1 ∧ 1 ≤ 2 ^ 32 - 1 ∧ 2 ^ 32 - 1 ≤ 2 ^ 32 - 1 := by decide

theorem witness_SampleTakesOneDraw :
    ({ State.reset with clockIn := [some 59, none] } : State).clockIn = some 59 :: [none] ∧ State.reset.clockIn = [] := ⟨rfl, rfl⟩

/-- A sample that succeeds and one that fails: the hypotheses of TIME_NOW, REMAIN_NOW and GEN_NOW. -/
theorem witness_samples :
    (sampleClock { loaded k20 0 with clockIn := [some 59] }).1 = some 59 ∧
    (sampleClock { loaded k20 0 with clockIn := [none] }).1 = none ∧
    ({ loaded k20 0 with clockIn := [some 59] } : State).keyValid = true ∧
    ({ loaded k20 0 with clockIn := [none] } : State).keyValid = true ∧ State.reset.keyValid = false := ⟨rfl, rfl, rfl, rfl, rfl⟩

theorem witness_Sha1PaddingShape : ([] : List Byte).length < 2 ^ 61 ∧ (List.replicate 56 (0x61 : Byte)).length < 2 ^ 61 := by
  simp

theorem witness_CompressFollowsRule : (List.replicate 64 (0xFF : Byte)).length = 64 := by simp

/-- A key of 64 bytes and one of 65. -/
theorem witness_HmacConstruction :
    (List.replicate 64 (1 : Byte)).length ≤ 64 ∧ 64 < (List.replicate 65 (1 : Byte)).length := by simp

theorem witness_TrailingZerosInvisible : ([] : List Byte).length + 20 ≤ 64 ∧ (List.replicate 44 (1 : Byte)).length + 20 ≤ 64 := by
  simp

theorem witness_HmacComputesDigest :
    State.reset.keyValid = false ∧ ((loaded k20 59).keyValid = true ∧ (loaded k20 59).counterValid = false) ∧
    (generated.keyValid = true ∧ generated.counterValid = true) := by decide +kernel

theorem witness_TruncationIsExact : 1 ≤ 1 ∧ 1 ≤ 10 ∧ 10 ≤ 10 := by decide

theorem witness_TruncWritesCode : State.reset.digestValid = false ∧ generated.digestValid = true := by decide +kernel

theorem witness_GenAtGeneratesFromTime : State.reset.keyValid = false ∧ (loaded [] 59).keyValid = true := ⟨rfl, rfl⟩

theorem witness_GenAtIsDivHmacTrunc : (loaded k20 59).keyValid = true := rfl

theorem witness_GenerationIsIdempotent :
    (∃ t, exec .genAt (loaded k20 59) = .next t) ∧
    ∃ t, exec .genNow { loaded k20 0 with clockIn := [some 59] } = .next t ∧ t.errcode = .ok := ⟨⟨_, rfl⟩, _, rfl, rfl⟩

theorem witness_CommandsLeaveTheOutsideAlone :
    Instr.genNow ≠ .timeNow ∧ Instr.genNow ≠ .remainNow ∧ ¬ (Instr.genNow = .genNow ∧ State.reset.keyValid = true) := by decide

/-- The last legal and the first illegal offsets, in this hardware. -/
theorem witness_IllegalAccessGetsSlverr (a : BitVec 12)
    (h : a ∈ ([0x010, 0x04C, 0x064, 0x0FC, 0x200, 0xFFC, 0x001] : List (BitVec 12))) :
    HostMoves (hosting (.read a 4) State.reset) (.read a 4) [] ∧
      (4 ≠ 4 ∨ a.toNat % 4 ≠ 0 ∨ a.toNat = 0x010 ∨ a.toNat = 0x04C ∨ (0x064 ≤ a.toNat ∧ a.toNat ≤ 0x0FF) ∨ 0x100 + hw.keyMaxBytes ≤ a.toNat) := by
  refine ⟨hosting_moves _ rfl rfl, ?_⟩
  simp only [List.mem_cons, List.not_mem_nil, or_false] at h
  rcases h with rfl | rfl | rfl | rfl | rfl | rfl | rfl <;> decide

theorem witness_IllegalWriteGetsSlverr (a : BitVec 12) (h : a ∈ ([0x000, 0x014, 0x01C, 0x028, 0x1FC] : List (BitVec 12))) :
    HostMoves (hosting (.write a 4 1) State.reset) (.write a 4 1) [] ∧
      (4 ≠ 4 ∨ ¬ (a.toNat = 0x010 ∨ a.toNat = 0x020 ∨ a.toNat = 0x024)) := by
  refine ⟨hosting_moves _ rfl rfl, ?_⟩
  simp only [List.mem_cons, List.not_mem_nil, or_false] at h
  rcases h with rfl | rfl | rfl | rfl | rfl <;> decide

/-- Each range of held registers at both ends. -/
theorem witness_HeldAccessWaits (a : BitVec 12)
    (h : a ∈ ([0x018, 0x048, 0x050, 0x060, 0x100, 0x1FC] : List (BitVec 12))) :
    (ready 0).pending ≠ none ∧ HostMoves (hosting (.read a 4) (ready 0)) (.read a 4) [] ∧ a.toNat % 4 = 0 ∧
      ((0x018 ≤ a.toNat ∧ a.toNat ≤ 0x048) ∨ (0x050 ≤ a.toNat ∧ a.toNat ≤ 0x060) ∨ (0x100 ≤ a.toNat ∧ a.toNat < 0x100 + hw.keyMaxBytes)) := by
  refine ⟨by simp [ready], hosting_moves _ rfl rfl, ?_⟩
  simp only [List.mem_cons, List.not_mem_nil, or_false] at h
  rcases h with rfl | rfl | rfl | rfl | rfl | rfl <;> decide

theorem witness_HeldWriteWaits (a : BitVec 12) (h : a ∈ ([0x010, 0x020, 0x024] : List (BitVec 12))) :
    (ready 0).pending ≠ none ∧ HostMoves (hosting (.write a 4 5) (ready 0)) (.write a 4 5) [] ∧
      (a.toNat = 0x010 ∨ a.toNat = 0x020 ∨ a.toNat = 0x024) := by
  refine ⟨by simp [ready], hosting_moves _ rfl rfl, ?_⟩
  simp only [List.mem_cons, List.not_mem_nil, or_false] at h
  rcases h with rfl | rfl | rfl <;> decide

/-- Any read with nothing pending, and any read while busy: the hypotheses of the statements about reads. -/
theorem witness_reads (a : BitVec 12) (n : Nat) :
    (HostMoves (hosting (.read a n) generated) (.read a n) [] ∧ (hosting (.read a n) generated).pending = none) ∧
    (HostMoves (hosting (.read a n) (ready 0)) (.read a n) [] ∧ (hosting (.read a n) (ready 0)).pending ≠ none) :=
  ⟨⟨hosting_moves _ (by decide +kernel) (by decide +kernel), show generated.pending = none by decide +kernel⟩,
    hosting_moves _ rfl rfl, by simp [hosting, ready]⟩

/-- A read that has waited and completes with a further access listed behind it. -/
theorem witness_ReadsHaveNoSideEffect :
    CoreSideMoves (waiting (.read 0x028 4) (loaded k20 59)) (waiting (.read 0x028 4) (loaded k20 59)) ∧
      (waiting (.read 0x028 4) (loaded k20 59)).pending = none ∧
      (waiting (.read 0x028 4) (loaded k20 59)).outstanding = some (.read 0x028 4) := ⟨waiting_moves _ _, rfl, rfl⟩

/-- The ranges of ResultRegistersRead at both ends, and the KEY window with and without a valid key. -/
theorem witness_ResultRegistersRead :
    (0x018 ≤ (0x018 : BitVec 12).toNat ∧ (0x03C : BitVec 12).toNat ≤ 0x03C ∧ (0x018 : BitVec 12).toNat % 4 = 0 ∧
      (0x03C : BitVec 12).toNat % 4 = 0) ∧ (session 3 7 []).bitcnt.toNat ≤ 7 ∧
    generated.keyValid = true ∧ State.reset.keyValid = false ∧ hw.legal = true ∧ 63 < hw.keyMaxBytes / 4 := by decide +kernel

theorem witness_InvalidKeyNeverLeaks :
    ((session 3 3 [0x43]).keyValid = false ∧
      (hosting (.read 0x100 4) (session 3 3 [0x43])).inbox = [.access (.read 0x100 4)] ∧
      (hosting (.read 0x100 4) (session 3 3 [0x43])).outstanding = none) ∧
    let s : State := waiting (.read 0x100 4) (session 3 3 [0x43])
    s.keyValid = false ∧ CoreSideMoves s s ∧ s.outstanding = some (.read 0x100 4) ∧ s.pending = none :=
  ⟨⟨rfl, rfl, rfl⟩, rfl, waiting_moves _ _, rfl, rfl⟩

theorem witness_RegisterWrites (a : BitVec 12) (v : Word) :
    State.reset.pending = none ∧ HostMoves (hosting (.write a 4 v) State.reset) (.write a 4 v) [] :=
  ⟨rfl, hosting_moves _ rfl rfl⟩

theorem witness_HeldAccessSeesTheCommand (w : Word) (h : w = 0x21000000 ∨ w = 0xFF000000) :
    let s : State := { ready w with inbox := [.access (.read 0x028 4), .coreTurn, .access (.read 0x030 4)] }
    let c : State := { s with inbox := [.access (.read 0x030 4)], outstanding := some (.read 0x028 4) }
    HostMoves s (.read 0x028 4) [.coreTurn, .access (.read 0x030 4)] ∧ s.pending = some w ∧ attempt (.read 0x028 4) s = none ∧
      CoreSideMoves { s with inbox := [.coreTurn, .access (.read 0x030 4)], outstanding := some (.read 0x028 4) } c ∧
      ∃ u, execute w c = .next u ∧ CoreSideMoves { u with pending := none } { u with pending := none } := by
  rcases h with rfl | rfl <;>
    exact ⟨⟨rfl, rfl, rfl⟩, rfl, rfl, .inl ⟨_, rfl, rfl⟩, _, rfl, .inr (.inr ⟨_, _, rfl, (fun h => nomatch h), rfl⟩)⟩

theorem witness_PendingIsEventuallyExecuted :
    (hosting (.read 0x014 4) (ready 0)).rstIn = false ∧ (hosting (.read 0x014 4) (ready 0)).pending ≠ none ∧
      (∀ b, Event.rst b ∉ (hosting (.read 0x014 4) (ready 0)).inbox) := by
  refine ⟨rfl, by simp [hosting, ready], ?_⟩
  decide

theorem witness_CounterOnlyFromTime :
    (∃ t, step (ready 0x21000000) = .next t) ∧ (∃ t, step { generated with inbox := [.rst true] } = .next t) ∧
      ∃ t, step (ready 0x01000000) = .next t := ⟨⟨_, rfl⟩, ⟨_, rfl⟩, _, rfl⟩

theorem witness_OnlyCommandsWriteErrcode :
    (∀ rest, (waiting (.read 0x100 4) generated).inbox ≠ .rst true :: rest) ∧ generated.pending = none ∧
    ((∀ rest, ({ ready 0 with rstIn := true, inbox := [.rst false] } : State).inbox ≠ .rst true :: rest) ∧
      ({ ready 0 with rstIn := true, inbox := [.rst false] } : State).rstIn = true) ∧
    (∀ rest, (hosting (.read 0x100 4) (ready 0)).inbox ≠ .rst true :: rest) ∧
      ∀ u, ¬ CoreSideMoves (hosting (.read 0x100 4) (ready 0)) u := by
  refine ⟨by simp [waiting], by decide +kernel, ⟨by simp, rfl⟩, by simp [hosting], ?_⟩
  rintro u (⟨_, h, _⟩ | ⟨h, _⟩ | ⟨_, _, _, h, _⟩)
  · simp [hosting] at h
  · simp [hosting] at h
  · exact h rfl

theorem witness_ResetReadsAsSpecified :
    (hw.legal = true ∧ readableReg hw 0x000 4 = some .id ∧ readableReg hw 0x00C 4 = some .cfgKeyMax ∧
      readableReg hw 0x1FC 4 = some (.key 63)) ∧
    small.legal = true ∧ readableReg small 0x140 4 = some (.key 16) := by decide

theorem witness_ResetMeetsInvariants : small.legal = true ∧ hw.legal = true := by decide

theorem witness_ParametersNeverChange :
    (∃ t, exec .sreset (loadedSmall k20 59) = .next t) ∧
      ∃ t, step { loadedSmall k20 59 with inbox := [.rst true] } = .next t := ⟨⟨_, rfl⟩, _, rfl⟩

theorem witness_HardwareResetClearsEverything :
    let s : State := { generated with inbox := [.rst true], outstanding := some (.write 0x010 4 0) }
    s.inbox = .rst true :: [] ∧ s.outstanding = some (.write 0x010 4 0) ∧ generated.outstanding = none := by decide +kernel

theorem witness_AccessInResetGetsSlverr :
    let s : State := { State.reset with rstIn := true, inbox := [.access (.read 0 4)] }
    let r : State := { State.reset with rstIn := true, inbox := [.access (.write 0x010 4 0)] }
    (s.rstIn = true ∧ s.outstanding = none ∧ s.inbox = .access (.read 0 4) :: []) ∧
    (r.rstIn = true ∧ r.outstanding = none ∧ r.inbox = .access (.write 0x010 4 0) :: []) := ⟨⟨rfl, rfl, rfl⟩, rfl, rfl, rfl⟩

end Sys2Proof.Machine.Tests
end

section
/-! PROOF. The parameters of the elaboration (00_scope.md R6): one lemma an operation, then the commands, then the step. -/

namespace Sys2Proof.Machine

/-! ### The operations the commands share -/

@[simp] theorem b32Shift_params (v : BitVec 5) (s : State) : (b32Shift v s).params = s.params := by
  simp only [b32Shift]
  split
  · simp
  · split <;> simp

@[simp] theorem b32Accept_params (imm : Byte) (s : State) : (b32Accept imm s).params = s.params := by
  unfold b32Accept
  split
  · simp
  · split <;> simp

@[simp] theorem generate_params (s : State) : (generate s).params = s.params := by
  simp [generate]

/-! ### Commands -/

/-- No command writes a parameter (00_scope.md R6). -/
theorem exec_keeps_params {i : Instr} {s t : State} (h : exec i s = .next t) : t.params = s.params := by
  cases i with
  | nop => cases h; exact finish_params s
  | sreset => cases h; exact resetElements_params s
  | b32Start => cases h; simp
  | b32Char imm => cases h; cases s.b32Mode <;> simp
  | b32End => cases h; cases s.b32Mode <;> simp
  | keyClear => cases h; split <;> simp
  | keyByte imm =>
    cases h
    split
    · split <;> simp
    · simp
  | timeNow => cases h; split <;> simp
  | div => cases h; simp
  | remainNow => cases h; split <;> simp
  | hmac =>
    cases h
    split
    · simp
    · split <;> simp
  | trunc => cases h; split <;> simp
  | genAt => cases h; split <;> simp
  | genNow =>
    cases h
    split
    · simp
    · split <;> simp

/-- Nor does the execution of any word, legal or not (30_encoding.md R86). -/
theorem execute_keeps_params {w : Word} {s t : State} (h : execute w s = .next t) : t.params = s.params := by
  cases hd : decode w with
  | ok i => exact exec_keeps_params (execute_ok s hd ▸ h)
  | error e =>
    rw [execute_error s hd] at h
    cases h
    exact raiseErr_params .illegalCmd s

/-- An execution step that answers a next state is the command's, with PENDING cleared (20_memory.md R74). -/
theorem retire_eq_next {o : Host.Outcome State Fault Refusal} {t : State} (h : retire o = .next t) :
    ∃ u, o = .next u ∧ t = { u with pending := none } := by
  cases o with
  | next u => cases h; exact ⟨u, rfl, rfl⟩
  | fault f => cases h
  | refused r => cases h

/-! ### Bus accesses and `rst` -/

theorem attempt_keeps_params {r : BusReq} {s t : State} {resp : BusResp} (h : attempt r s = some (resp, t)) :
    t.params = s.params := by
  rcases attempt_cases h with ⟨_, rfl⟩ | ⟨_, rfl⟩ | ⟨_, rfl⟩ <;> rfl

@[simp] theorem issueAccess_params (r : BusReq) (s : State) : (issueAccess r s).params = s.params := by
  cases hr : s.rstIn with
  | true => rw [issueAccess_in_reset r hr]
  | false =>
    cases ha : attempt r s with
    | none => rw [issueAccess_waits hr ha]
    | some p =>
      rw [issueAccess_done hr ha]
      exact (attempt_keeps_params ha :)

@[simp] theorem completeOutstanding_params (r : BusReq) (s : State) : (completeOutstanding r s).params = s.params := by
  unfold completeOutstanding
  split
  case h_1 => rfl
  case h_2 ha => exact (attempt_keeps_params ha :)

@[simp] theorem abortOutstanding_params (s : State) : (abortOutstanding s).params = s.params := by
  unfold abortOutstanding
  split <;> rfl

@[simp] theorem driveRst_params (asserted : Bool) (s : State) : (driveRst asserted s).params = s.params := by
  cases asserted with
  | true => rw [driveRst_asserted]; rfl
  | false => rw [driveRst_released]

/-! ### The step -/

/-- The CORE side writes no parameter: in reset, with a command pending, and with none. -/
theorem coreSide_keeps_params {s t : State} (h : coreSide s = .next t) : t.params = s.params := by
  cases hr : s.rstIn with
  | true =>
    rw [coreSide_in_reset hr] at h
    cases h
    exact abortOutstanding_params s
  | false =>
    cases hp : s.pending with
    | some w =>
      obtain ⟨u, hu, rfl⟩ := retire_eq_next (coreSide_pending hr hp ▸ h)
      exact (execute_keeps_params hu :)
    | none =>
      rw [coreSide_idle hr hp] at h
      cases h
      split <;> simp

/-- No step writes a parameter: an edge of `rst`, an access issued, or the CORE side (00_scope.md R6). -/
theorem step_keeps_params {s t : State} (h : step s = .next t) : t.params = s.params := by
  rcases step_cases s with ⟨b, rest, _, hs⟩ | ⟨r, rest, _, _, hs⟩ | ⟨u, hu, hs⟩ <;> rw [hs] at h
  · cases h
    exact driveRst_params b _
  · cases h
    exact issueAccess_params r _
  · calc t.params = u.params := coreSide_keeps_params h
      _ = s.params := by rw [hu.eq_inbox]

/-- Settles O60: every command and every step leaves the parameters as they were elaborated. -/
theorem parametersNeverChange : Obligations.ParametersNeverChange :=
  ⟨fun _ _ _ => exec_keeps_params, fun _ _ => step_keeps_params⟩

end Sys2Proof.Machine
end

section
/-! PROOF. What a step can do to the elements R20-R38 of 10_state.md, said once: what an access does, the reset values, or
the execution of a word. -/

namespace Sys2Proof.Machine

/-! ### The elements of the CORE and what lies around them -/

/-- `t` has the parameters and the elements R20-R38 of `s`: they differ at most in PENDING, the bus port and the inputs
(10_state.md R39, R41; logs 1, 2, 4, 6, 7, 8). -/
def SameElements (s t : State) : Prop :=
  t = { s with
    pending := t.pending, outstanding := t.outstanding, busResp := t.busResp, rstIn := t.rstIn, inbox := t.inbox,
    clockIn := t.clockIn, draws := t.draws }

/-- A release of `rst`, seen from the elements. -/
theorem driveRst_released_sameElements (s : State) : SameElements s (driveRst false s) := by
  rw [driveRst_released]
  rfl

/-- An assertion of `rst` leaves the elements of R61 (70_reset_and_hazards.md R144). -/
theorem driveRst_asserted_sameElements (s : State) : SameElements (State.resetOf s.params) (driveRst true s) := by
  rw [driveRst_asserted]
  rfl

theorem abortOutstanding_sameElements (s : State) : SameElements s (abortOutstanding s) := by
  unfold abortOutstanding
  split <;> rfl

/-- What a bus access can do to the elements: nothing, or a new TIME with what that clears (10_state.md R51). -/
def AccessEffect (s t : State) : Prop :=
  SameElements s t ∨ ∃ x : DWord, SameElements (clearCounter { s with time := x }) t

theorem attempt_effect {r : BusReq} {s t : State} {resp : BusResp} (h : attempt r s = some (resp, t)) :
    AccessEffect s t := by
  rcases attempt_cases h with ⟨n, rfl⟩ | ⟨v, rfl⟩ | ⟨x, rfl⟩
  · exact .inl rfl
  · exact .inl rfl
  · exact .inr ⟨x, rfl⟩

/-- Whatever happens around the elements after an access, its effect on them stays. -/
theorem AccessEffect.trans_same {s t u : State} (h : AccessEffect s t) (hu : SameElements t u) : AccessEffect s u := by
  rcases h with h | ⟨x, h⟩ <;> rw [SameElements] at h hu
  · exact .inl (by rw [SameElements, hu, h])
  · exact .inr ⟨x, by rw [SameElements, hu, h]⟩

theorem issueAccess_effect (r : BusReq) (s : State) : AccessEffect s (issueAccess r s) := by
  cases hr : s.rstIn with
  | true => exact issueAccess_in_reset r hr ▸ .inl rfl
  | false =>
    cases ha : attempt r s with
    | none => exact issueAccess_waits hr ha ▸ .inl rfl
    | some p => exact issueAccess_done hr ha ▸ (attempt_effect ha).trans_same rfl

theorem completeOutstanding_effect (r : BusReq) (s : State) : AccessEffect s (completeOutstanding r s) := by
  unfold completeOutstanding
  split
  case h_1 => exact .inl rfl
  case h_2 ha => exact (attempt_effect ha).trans_same rfl

/-! ### The step -/

/-- The CORE side either executes the pending word, or does at most what an access does. -/
theorem coreSide_effect {s t : State} (h : coreSide s = .next t) :
    AccessEffect s t ∨
      ∃ w v, s.rstIn = false ∧ s.pending = some w ∧ execute w s = .next v ∧ t = { v with pending := none } := by
  cases hr : s.rstIn with
  | true =>
    rw [coreSide_in_reset hr] at h
    cases h
    exact .inl (.inl (abortOutstanding_sameElements s))
  | false =>
    cases hp : s.pending with
    | some w =>
      obtain ⟨v, hv, ht⟩ := retire_eq_next (coreSide_pending hr hp ▸ h)
      exact .inr ⟨w, v, rfl, rfl, hv, ht⟩
    | none =>
      rw [coreSide_idle hr hp] at h
      cases h
      cases s.outstanding with
      | none => exact .inl (.inl rfl)
      | some r => exact .inl (completeOutstanding_effect r s)

/-- What a step can do to the elements: what an access does, the reset values when `rst` is asserted, or the execution of
the pending word. -/
theorem step_effect {s t : State} (h : step s = .next t) :
    AccessEffect s t ∨
    ((∃ rest, s.inbox = .rst true :: rest) ∧ SameElements (State.resetOf s.params) t) ∨
    ∃ u w v, CoreSideMoves s u ∧ s.rstIn = false ∧ s.pending = some w ∧ execute w u = .next v ∧
      t = { v with pending := none } := by
  rcases step_cases s with ⟨b, rest, hi, hs⟩ | ⟨r, rest, _, _, hs⟩ | ⟨u, hu, hs⟩ <;> rw [hs] at h
  · cases h
    cases b with
    | true => exact .inr (.inl ⟨⟨rest, hi⟩, driveRst_asserted_sameElements { s with inbox := rest }⟩)
    | false => exact .inl (.inl (driveRst_released_sameElements { s with inbox := rest }))
  · cases h
    exact .inl (issueAccess_effect r { s with inbox := rest })
  · have hus := hu.eq_inbox
    rcases coreSide_effect h with he | ⟨w, v, hr, hp, hv, ht⟩
    · rw [hus] at he
      exact .inl he
    · refine .inr (.inr ⟨u, w, v, hu, ?_, ?_, hv, ht⟩)
      · rwa [hus] at hr
      · rwa [hus] at hp

end Sys2Proof.Machine
end

section
/-! PROOF. The invariants of 10_state.md R42: one lemma a shared operation, then the commands, then the step. -/

namespace Sys2Proof.Machine

/-! ### The invariants and the operations -/

@[simp] theorem keyBytes_divideTime (s : State) : keyBytes (divideTime s) = keyBytes s := rfl

@[simp] theorem keyFull_clearDigest (s : State) : keyFull (clearDigest s) = keyFull s := rfl

namespace Invariants

variable {s t : State}

/-- REMAINING, ERRCODE and all that lies around the elements are in no invariant. -/
theorem frame (h : Invariants s) (rem : Word) (err : ErrCode) (pend : Option Word) (out : Option BusReq)
    (resp : Option BusResp) (rst : Bool) (inbox : List Event) (clock : List (Option DWord)) (draws : Nat) :
    Invariants { s with
      remaining := rem, errcode := err, pending := pend, outstanding := out, busResp := resp, rstIn := rst,
      inbox := inbox, clockIn := clock, draws := draws } :=
  { h with }

theorem of_sameElements (h : Invariants s) (e : SameElements s t) : Invariants t := by
  rw [e]
  exact h.frame ..

theorem finish (h : Invariants s) : Invariants (finish s) := h.frame ..

theorem raiseErr (h : Invariants s) (e : ErrCode) : Invariants (raiseErr e s) := h.frame ..

theorem sampleClock (h : Invariants s) : Invariants (sampleClock s).2 := by
  rw [sampleClock_frame]
  exact h.frame ..

/-- The reset state of a legal elaboration: the key is all zeros and every valid flag is down (10_state.md R61). -/
theorem resetOf {p : Config.Params} (hp : p.legal = true) : Invariants (State.resetOf p) where
  params_legal := hp
  acc_lt := Nat.two_pow_pos _
  key_length := List.length_replicate
  bitcnt_le := Nat.zero_le 7
  keyLen_le := Nat.zero_le _
  key_tail _ _ _ := by simp [State.resetOf, List.getD]
  session_no_key _ := rfl
  active_clean _ := rfl
  failed_empty hm := nomatch hm
  counter_fresh hc := nomatch hc
  digest_fresh hd := nomatch hd
  code_fresh hc := nomatch hc

theorem resetElements (h : Invariants s) : Invariants (resetElements s) :=
  (resetOf h.params_legal).frame ..

/-! The valid flags. -/

theorem digestValid_of_no_key (h : Invariants s) (hk : s.keyValid = false) : s.digestValid = false :=
  Bool.eq_false_iff.mpr fun hd => by
    obtain ⟨hk', -⟩ := h.digest_fresh hd
    exact Bool.false_ne_true (hk.symm.trans hk')

theorem clearDigest (h : Invariants s) : Invariants (clearDigest s) :=
  { h with
    digest_fresh := nofun
    code_fresh := nofun }

/-- A new TIME, with the flags it clears (10_state.md R51). -/
theorem newTime (h : Invariants s) (x : DWord) : Invariants (clearCounter { s with time := x }) :=
  { h with
    counter_fresh := nofun
    digest_fresh := nofun
    code_fresh := nofun }

theorem of_accessEffect (h : Invariants s) (e : AccessEffect s t) : Invariants t := by
  rcases e with e | ⟨x, e⟩
  · exact h.of_sameElements e
  · exact (h.newTime x).of_sameElements e

end Invariants

/-- `t div TIME_STEP` fits COUNTER (44_counter_divider.md R119). -/
theorem counterOf_toNat (timeStep : Nat) (t : DWord) : (counterOf timeStep t).toNat = t.toNat / timeStep :=
  (BitVec.toNat_ofNat ..).trans (Nat.mod_eq_of_lt (Nat.lt_of_le_of_lt (Nat.div_le_self ..) t.isLt))

namespace Invariants

variable {s t : State}

/-- COUNTER, when valid, is what dividing TIME gives again. -/
theorem counterOf_time (h : Invariants s) (hc : s.counterValid = true) :
    counterOf s.params.timeStep s.time = s.counter :=
  BitVec.eq_of_toNat_eq ((counterOf_toNat ..).trans (h.counter_fresh hc).symm)

/-- A valid digest is one of a valid counter, which the division leaves as it is. -/
theorem divideTime (h : Invariants s) : Invariants (divideTime s) :=
  { h with
    counter_fresh := fun _ => counterOf_toNat ..
    digest_fresh := fun hd => by
      obtain ⟨hk, hc, hdig⟩ := h.digest_fresh hd
      exact ⟨hk, rfl, by simpa [h.counterOf_time hc] using hdig⟩ }

/-- A valid code is one of a valid digest, which the engine computes again (42_hmac_sha1_engine.md R113). -/
theorem computeDigest (h : Invariants s) (hk : s.keyValid = true) (hc : s.counterValid = true) :
    Invariants (computeDigest s) :=
  { h with
    digest_fresh := fun _ => ⟨hk, hc, rfl⟩
    code_fresh := fun hv => by
      obtain ⟨hd, htr⟩ := h.code_fresh hv
      obtain ⟨-, -, hdig⟩ := h.digest_fresh hd
      exact ⟨rfl, by simpa [← hdig] using htr⟩ }

theorem storeTruncation (h : Invariants s) (hd : s.digestValid = true) : Invariants (storeTruncation s) :=
  { h with code_fresh := fun _ => ⟨hd, rfl⟩ }

theorem generate (h : Invariants s) (hk : s.keyValid = true) : Invariants (generate s) :=
  ((h.divideTime.computeDigest hk rfl).storeTruncation rfl).finish

/-! The key buffer and the session. -/

/-- Zeroing the key while no digest of it stands. -/
theorem zeroizeKey (h : Invariants s) (hd : s.digestValid = false) : Invariants (zeroizeKey s) :=
  { h with
    key_length := List.length_replicate
    keyLen_le := Nat.zero_le _
    key_tail := fun _ _ _ => by simp [List.getD]
    failed_empty := fun hm => ⟨rfl, (h.failed_empty hm).2⟩
    digest_fresh := fun hv => absurd hv (by simp [hd]) }

/-- An append inside the buffer, while no digest of the key stands and no session has failed. -/
theorem appendKey (h : Invariants s) (b : Byte) (hd : s.digestValid = false) (hm : s.b32Mode ≠ .failed)
    (hf : keyFull s = false) : Invariants (appendKey b s) :=
  have hlt : s.keyLen < s.params.keyMaxBytes := Nat.lt_of_le_of_ne h.keyLen_le (by simpa [keyFull] using hf)
  { h with
    key_length := (appendKey_key_length b s).trans h.key_length
    keyLen_le := hlt
    key_tail := fun i hi hle => by
      have hlen : i < s.key.length := h.key_length.symm ▸ hi
      have hgt : s.keyLen < i := hle
      rw [appendKey_getD b s hlen, if_neg (by omega)]
      exact h.key_tail i hi (by omega)
    failed_empty := fun hm' => absurd hm' hm
    digest_fresh := fun hv => absurd hv (by simp [hd]) }

/-- The decoder's elements at the start of a session, over an empty key (41_base32_decoder.md R98). -/
theorem startSession (h : Invariants s) (hd : s.digestValid = false) :
    Invariants { s with b32Mode := .active, b32Fail := .ok, acc := 0, bitcnt := 0, keyValid := false } :=
  { h with
    acc_lt := Nat.two_pow_pos _
    bitcnt_le := Nat.zero_le 7
    session_no_key := fun _ => rfl
    active_clean := fun _ => rfl
    failed_empty := nofun
    digest_fresh := fun hv => absurd hv (by simp [hd]) }

/-- `B32Fail(e)` inside a session (41_base32_decoder.md R100). -/
theorem b32FailWith (h : Invariants s) {e : ErrCode} (he : sessionError e) (hk : s.keyValid = false) :
    Invariants (b32FailWith e s) :=
  { h.zeroizeKey (h.digestValid_of_no_key hk) with
    acc_lt := Nat.two_pow_pos _
    bitcnt_le := Nat.zero_le 7
    session_no_key := fun _ => hk
    active_clean := nofun
    failed_empty := fun _ => ⟨rfl, rfl, rfl, he⟩ }

end Invariants

/-- One accumulator step leaves at most seven bits (41_base32_decoder.md R97). -/
theorem accumulate_bitcnt_le (v : BitVec 5) {s : State} (h : s.bitcnt.toNat ≤ 7) : (accumulate v s).bitcnt ≤ 7 := by
  by_cases h8 : 8 ≤ s.bitcnt.toNat + 5
  · have := (accumulate_emits v h8).1
    omega
  · have := (accumulate_holds v (Nat.not_le.mp h8)).1
    omega

namespace Invariants

variable {s t : State}

/-- The accumulator after a symbol, in an ACTIVE session. -/
theorem storeAccumulated (h : Invariants s) {a : Accumulated} (hacc : a.acc < 2 ^ s.params.accWidth)
    (hbit : a.bitcnt ≤ 7) (hm : s.b32Mode = .active) : Invariants (storeAccumulated a s) :=
  { h with
    acc_lt := hacc
    bitcnt_le := by
      show (BitVec.ofNat 4 a.bitcnt).toNat ≤ 7
      rw [BitVec.toNat_ofNat]
      omega
    failed_empty := fun hf => nomatch hm.symm.trans hf }

/-- A symbol in an ACTIVE session, whose key is not valid (41_base32_decoder.md R99). -/
theorem b32Shift (h : Invariants s) (v : BitVec 5) (hm : s.b32Mode = .active) : Invariants (b32Shift v s) := by
  have hk : s.keyValid = false := h.session_no_key (by simp [hm])
  have hacc : (accumulate v s).acc < 2 ^ s.params.accWidth :=
    accumulate_acc v s ▸ Nat.mod_lt _ (Nat.two_pow_pos _)
  have hbit := accumulate_bitcnt_le v h.bitcnt_le
  simp only [Machine.b32Shift]
  split
  · exact h.storeAccumulated hacc hbit hm
  · split
    next => exact h.b32FailWith (.inr rfl) hk
    next hf =>
      exact (h.appendKey _ (h.digestValid_of_no_key hk) (by simp [hm]) (by simpa using hf)).storeAccumulated hacc hbit hm

theorem b32Accept (h : Invariants s) (imm : Byte) (hm : s.b32Mode = .active) : Invariants (b32Accept imm s) := by
  unfold Machine.b32Accept
  split
  · exact h.finish
  · split
    · exact h.b32FailWith (.inl rfl) (h.session_no_key (by simp [hm]))
    · exact h.b32Shift _ hm

/-- The session ends and the key becomes valid, with no digest of it standing (41_base32_decoder.md R101). -/
theorem endSession (h : Invariants s) (hm : s.b32Mode = .active) :
    Invariants { s with b32Mode := .idle, keyValid := true } :=
  have hd : s.digestValid = false := h.digestValid_of_no_key (h.session_no_key (by simp [hm]))
  { h with
    session_no_key := fun hne => absurd rfl hne
    active_clean := nofun
    failed_empty := nofun
    digest_fresh := fun hv => absurd hv (by simp [hd]) }

/-- A failed session ends without a key. -/
theorem endFailedSession (h : Invariants s) : Invariants { s with b32Mode := .idle } :=
  { h with
    session_no_key := fun hne => absurd rfl hne
    active_clean := nofun
    failed_empty := nofun }

/-- KEY_VALID may take any value outside a session while no digest stands. -/
theorem setKeyValid (h : Invariants s) (b : Bool) (hm : s.b32Mode = .idle) (hd : s.digestValid = false) :
    Invariants { s with keyValid := b } :=
  { h with
    session_no_key := fun hne => absurd hm hne
    digest_fresh := fun hv => absurd hv (by simp [hd]) }

end Invariants

/-! ### Commands and steps -/

/-- The division, the engine and the truncation write every flag a new TIME clears (45_generate.md R124, R125). -/
theorem generate_clearCounter (s : State) : generate (clearCounter s) = generate s := rfl

/-- Every command keeps the invariants (10_state.md R42). -/
theorem exec_keeps_invariants {i : Instr} {s t : State} (h : Invariants s) (hx : exec i s = .next t) : Invariants t := by
  cases i with
  | nop => cases hx; exact h.finish
  | sreset => cases hx; exact h.resetElements
  | b32Start => cases hx; exact ((h.clearDigest.zeroizeKey rfl).startSession rfl).finish
  | b32Char imm =>
    cases hx
    split
    next => exact h.raiseErr _
    next => exact h.raiseErr _
    next hm => exact h.b32Accept imm hm
  | b32End =>
    cases hx
    split
    next => exact h.raiseErr _
    next => exact h.endFailedSession.raiseErr _
    next hm => exact (h.endSession hm).finish
  | keyClear =>
    cases hx
    split
    next hm => exact ((h.clearDigest.zeroizeKey rfl).setKeyValid true hm rfl).finish
    next => exact h.raiseErr _
  | keyByte imm =>
    cases hx
    split
    next hm =>
      split
      next => exact ((h.clearDigest.zeroizeKey rfl).setKeyValid false hm rfl).raiseErr _
      next hf => exact (h.clearDigest.appendKey imm rfl (by simp [hm]) (by simpa using hf)).finish
    next => exact h.raiseErr _
  | timeNow =>
    cases hx
    split
    · exact h.sampleClock.raiseErr _
    · exact (h.sampleClock.newTime _).finish
  | div => cases hx; exact h.divideTime.finish
  | remainNow =>
    cases hx
    split
    · exact h.sampleClock.raiseErr _
    · exact h.sampleClock.frame ..
  | hmac =>
    cases hx
    split
    next => exact h.raiseErr _
    next hk =>
      split
      next => exact h.raiseErr _
      next hc => exact (h.computeDigest (by simpa using hk) (by simpa using hc)).finish
  | trunc =>
    cases hx
    split
    next => exact h.raiseErr _
    next hd => exact (h.storeTruncation (by simpa using hd)).finish
  | genAt =>
    cases hx
    split
    next => exact h.raiseErr _
    next hk => exact h.generate (by simpa using hk)
  | genNow =>
    cases hx
    split
    next => exact h.raiseErr _
    next hk =>
      split
      next => exact h.sampleClock.raiseErr _
      next x _ =>
        rw [← generate_clearCounter]
        exact (h.sampleClock.newTime x).generate (by simpa using hk)

/-- So does the execution of any word, legal or not (30_encoding.md R86). -/
theorem execute_keeps_invariants {w : Word} {s t : State} (h : Invariants s) (hx : execute w s = .next t) :
    Invariants t := by
  cases hd : decode w with
  | ok i => exact exec_keeps_invariants h (execute_ok s hd ▸ hx)
  | error e =>
    rw [execute_error s hd] at hx
    cases hx
    exact h.raiseErr .illegalCmd

/-- Settles O57: at reset the key is all zeros and every valid flag is down. -/
theorem resetMeetsInvariants : Obligations.ResetMeetsInvariants :=
  ⟨fun _ => Invariants.resetOf, Invariants.resetOf (by decide)⟩

/-- Settles O58, by what a step can do to the elements: an access at most invalidates what TIME feeds, an assertion of
`rst` gives the reset state, and the rest is the execution of a word. -/
theorem stepKeepsInvariants : Obligations.StepKeepsInvariants := by
  intro s t h hs
  rcases step_effect hs with he | ⟨_, he⟩ | ⟨u, w, v, hu, _, _, hv, rfl⟩
  · exact h.of_accessEffect he
  · exact (Invariants.resetOf h.params_legal).of_sameElements he
  · have hsu : Invariants u := hu.eq_inbox ▸ h.frame ..
    exact (execute_keeps_invariants hsu hv).frame ..

end Sys2Proof.Machine
end

section
/-! PROOF. What the commands write and what they do not: the bus port and the inputs, COUNTER, ERRCODE, the session and the
key (10_state.md R28, R38, R41); and the state after reset (R61). -/

namespace Sys2Proof.Machine

/-! ### A character in a session -/

/-- A symbol writes the decoder's elements, the key buffer and ERRCODE (41_base32_decoder.md R99, R100). -/
theorem b32Shift_frame (v : BitVec 5) (s : State) :
    b32Shift v s = { s with
      acc := (b32Shift v s).acc, bitcnt := (b32Shift v s).bitcnt, b32Mode := (b32Shift v s).b32Mode,
      b32Fail := (b32Shift v s).b32Fail, key := (b32Shift v s).key, keyLen := (b32Shift v s).keyLen,
      errcode := (b32Shift v s).errcode } := by
  simp only [b32Shift]
  split
  · rfl
  · split <;> rfl

/-- So does any byte. -/
theorem b32Accept_frame (imm : Byte) (s : State) :
    b32Accept imm s = { s with
      acc := (b32Accept imm s).acc, bitcnt := (b32Accept imm s).bitcnt, b32Mode := (b32Accept imm s).b32Mode,
      b32Fail := (b32Accept imm s).b32Fail, key := (b32Accept imm s).key, keyLen := (b32Accept imm s).keyLen,
      errcode := (b32Accept imm s).errcode } := by
  unfold b32Accept
  split
  · rfl
  · split
    · rfl
    · exact b32Shift_frame _ s

/-! ### The bus port and the inputs -/

/-- PENDING, the bus port, `rst` and the inbox are in `t` as in `s`. -/
def PortKept (s t : State) : Prop :=
  t = { t with
    pending := s.pending, outstanding := s.outstanding, busResp := s.busResp, rstIn := s.rstIn, inbox := s.inbox }

/-- As `PortKept`, and nothing was drawn from the clock input (10_state.md R41). -/
def OutsideKept (s t : State) : Prop :=
  t = { t with
    pending := s.pending, outstanding := s.outstanding, busResp := s.busResp, rstIn := s.rstIn, inbox := s.inbox,
    clockIn := s.clockIn, draws := s.draws }

/-- A command draws from the clock: TIME_NOW, REMAIN_NOW, and GEN_NOW with a valid key (10_state.md R41). -/
def DrawsFromClock (i : Instr) (s : State) : Prop :=
  i = .timeNow ∨ i = .remainNow ∨ (i = .genNow ∧ s.keyValid = true)

/-- What a command does outside the elements of the CORE: nothing, or it samples the clock and leaves the port alone. -/
theorem exec_outside {i : Instr} {s t : State} (h : exec i s = .next t) :
    OutsideKept s t ∨ (DrawsFromClock i s ∧ PortKept s t) := by
  cases i with
  | nop => cases h; exact .inl rfl
  | sreset => cases h; exact .inl rfl
  | b32Start => cases h; exact .inl rfl
  | b32Char imm =>
    cases h
    cases s.b32Mode with
    | idle => exact .inl rfl
    | active => exact .inl (by rw [b32Accept_frame]; rfl)
    | failed => exact .inl rfl
  | b32End => cases h; cases s.b32Mode <;> exact .inl rfl
  | keyClear => cases h; split <;> exact .inl rfl
  | keyByte imm =>
    cases h
    split
    · split <;> exact .inl rfl
    · exact .inl rfl
  | timeNow =>
    cases h
    refine .inr ⟨.inl rfl, ?_⟩
    split <;> rw [sampleClock_frame] <;> rfl
  | div => cases h; exact .inl rfl
  | remainNow =>
    cases h
    refine .inr ⟨.inr (.inl rfl), ?_⟩
    split <;> rw [sampleClock_frame] <;> rfl
  | hmac =>
    cases h
    split
    · exact .inl rfl
    · split <;> exact .inl rfl
  | trunc => cases h; split <;> exact .inl rfl
  | genAt => cases h; split <;> exact .inl rfl
  | genNow =>
    cases h
    split
    next => exact .inl rfl
    next hk =>
      refine .inr ⟨.inr (.inr ⟨rfl, by simpa using hk⟩), ?_⟩
      split <;> rw [sampleClock_frame] <;> rfl

/-- Settles O37, by what a command does outside the elements. -/
theorem commandsLeaveTheOutsideAlone : Obligations.CommandsLeaveTheOutsideAlone := by
  intro i s
  obtain ⟨t, ht⟩ := exec_answers_next i s
  refine ⟨t, ht, ?_⟩
  rcases exec_outside ht with h | ⟨hd, h⟩ <;> rw [h]
  · exact ⟨rfl, rfl, rfl, rfl, rfl, fun _ _ _ => ⟨rfl, rfl⟩⟩
  · refine ⟨rfl, rfl, rfl, rfl, rfl, fun htime hremain hgen => ?_⟩
    rcases hd with hd | hd | hd
    · exact absurd hd htime
    · exact absurd hd hremain
    · exact absurd hd hgen

/-- Settles O22: the next listed sample, or a fresh free value. -/
theorem sampleTakesOneDraw : Obligations.SampleTakesOneDraw := by
  refine fun s => ⟨fun v rest h => ?_, fun h => ?_⟩ <;> simp only [sampleClock, h]

/-! ### COUNTER -/

/-- After the division COUNTER is TIME div TIME_STEP, whatever is generated from it (44_counter_divider.md R121,
45_generate.md R124). -/
theorem generate_counter (s : State) : (generate s).counter.toNat = (generate s).time.toNat / s.params.timeStep :=
  counterOf_toNat ..

/-- What a command does to COUNTER (10_state.md R28). -/
theorem exec_counter {i : Instr} {s t : State} (h : exec i s = .next t) :
    t.counter = s.counter ∨ (i = .sreset ∧ t.counter = 0) ∨
      ((i = .div ∨ i = .genAt ∨ i = .genNow) ∧ t.counter.toNat = t.time.toNat / s.params.timeStep) := by
  cases i with
  | nop => cases h; exact .inl rfl
  | sreset => cases h; exact .inr (.inl ⟨rfl, rfl⟩)
  | b32Start => cases h; exact .inl rfl
  | b32Char imm =>
    cases h
    cases s.b32Mode with
    | idle => exact .inl rfl
    | active => exact .inl (by rw [b32Accept_frame])
    | failed => exact .inl rfl
  | b32End => cases h; cases s.b32Mode <;> exact .inl rfl
  | keyClear => cases h; split <;> exact .inl rfl
  | keyByte imm =>
    cases h
    split
    · split <;> exact .inl rfl
    · exact .inl rfl
  | timeNow => cases h; split <;> exact .inl (sampleClock_counter s)
  | div => cases h; exact .inr (.inr ⟨.inl rfl, counterOf_toNat ..⟩)
  | remainNow => cases h; split <;> exact .inl (sampleClock_counter s)
  | hmac =>
    cases h
    split
    · exact .inl rfl
    · split <;> exact .inl rfl
  | trunc => cases h; split <;> exact .inl rfl
  | genAt =>
    cases h
    split
    · exact .inl rfl
    · exact .inr (.inr ⟨.inr (.inl rfl), generate_counter s⟩)
  | genNow =>
    cases h
    split
    · exact .inl rfl
    · split
      · exact .inl (sampleClock_counter s)
      next x _ =>
        have hg := generate_counter { (sampleClock s).2 with time := x }
        rw [show ({ (sampleClock s).2 with time := x } : State).params = s.params from sampleClock_params s] at hg
        exact .inr (.inr ⟨.inr (.inr rfl), hg⟩)

theorem AccessEffect.counter {s t : State} (h : AccessEffect s t) : t.counter = s.counter := by
  rcases h with h | ⟨_, h⟩
  · rw [h]
  · rw [h]
    rfl

/-- Settles O51: an access leaves COUNTER, `rst` clears it, and a word does to it what its command does. -/
theorem counterOnlyFromTime : Obligations.CounterOnlyFromTime := by
  intro s t hs
  rcases step_effect hs with he | ⟨hi, he⟩ | ⟨u, w, v, hu, hr, hp, hv, rfl⟩
  · exact .inl he.counter
  · exact .inr (.inl ⟨by rw [he]; rfl, hi⟩)
  · have hsu : u.counter = s.counter ∧ u.params = s.params := by
      rw [hu.eq_inbox]
      exact ⟨rfl, rfl⟩
    obtain ⟨hcount, hparams⟩ := hsu
    cases hd : decode w with
    | error e =>
      rw [execute_error u hd] at hv
      cases hv
      exact .inl hcount
    | ok i =>
      rcases exec_counter (execute_ok u hd ▸ hv) with hc | ⟨rfl, hc⟩ | ⟨hi, hc⟩
      · exact .inl (hc.trans hcount)
      · exact .inr (.inr ⟨u, w, hu, hr, hp, .inl ⟨hd, hc⟩⟩)
      · rw [hparams] at hc
        refine .inr (.inr ⟨u, w, hu, hr, hp, .inr ⟨?_, hc⟩⟩)
        rcases hi with rfl | rfl | rfl
        · exact .inl hd
        · exact .inr (.inl hd)
        · exact .inr (.inr hd)

/-! ### ERRCODE, the session and the key -/

/-- Every word executes to a next state (60_exceptions.md R134). -/
theorem execute_answers_next (w : Word) (s : State) : ∃ t, execute w s = .next t := by
  cases hd : decode w with
  | ok i => exact execute_ok s hd ▸ exec_answers_next i s
  | error e => exact ⟨_, execute_error s hd⟩

theorem coreSide_answers_next (s : State) : ∃ t, coreSide s = .next t := by
  cases hr : s.rstIn with
  | true => exact ⟨_, coreSide_in_reset hr⟩
  | false =>
    cases hp : s.pending with
    | none => exact ⟨_, coreSide_idle hr hp⟩
    | some w =>
      obtain ⟨t, ht⟩ := execute_answers_next w s
      exact ⟨_, (coreSide_pending hr hp).trans (congrArg retire ht)⟩

theorem step_answers_next (s : State) : ∃ t, step s = .next t := by
  rcases step_cases s with ⟨_, _, _, hs⟩ | ⟨_, _, _, _, hs⟩ | ⟨u, _, hs⟩
  · exact ⟨_, hs⟩
  · exact ⟨_, hs⟩
  · exact hs ▸ coreSide_answers_next u

/-- Settles O52: a step that neither asserts `rst` nor executes a word does what an access does, which writes neither
ERRCODE nor the session nor the key. -/
theorem onlyCommandsWriteErrcode : Obligations.OnlyCommandsWriteErrcode := by
  intro s hrst hidle
  obtain ⟨t, ht⟩ := step_answers_next s
  refine ⟨t, ht, ?_⟩
  rcases step_effect ht with he | ⟨⟨rest, hi⟩, _⟩ | ⟨u, w, _, hu, hr, hp, _⟩
  · rcases he with he | ⟨_, he⟩ <;> rw [he] <;> exact ⟨rfl, rfl, rfl, rfl, rfl, rfl, rfl, rfl⟩
  · exact absurd hi (hrst rest)
  · rcases hidle with h | h | h
    · exact nomatch hp.symm.trans h
    · exact nomatch hr.symm.trans h
    · exact absurd hu (h u)

/-! ### The state after reset -/

/-- Settles O53: each element has the value R61 gives it. -/
theorem resetStateValues : Obligations.ResetStateValues :=
  ⟨rfl, fun _ => ⟨rfl, rfl, rfl, rfl, rfl, rfl, rfl, rfl, rfl, rfl, rfl, rfl, rfl, rfl, rfl, rfl, rfl, rfl, rfl, rfl, rfl⟩⟩

end Sys2Proof.Machine
end

section
/-! PROOF. The host-visible registers (10_state.md R43-R59): which register an offset names, what a read answers, and the
three writes. -/

namespace Sys2Proof.Machine

/-! ### The address map, read -/

/-- The readable register of an aligned offset, by the map and its access code (20_memory.md R66, R67). -/
theorem readableReg_of_regAt {p : Config.Params} {a : BitVec 12} {r : Reg} (ha : a.toNat % 4 = 0)
    (hr : regAt p a.toNat = some r) (hacc : regAccess r ≠ .wo) : readableReg p a 4 = some r := by
  simp [readableReg, alignedReg, ha, hr, hacc]

theorem readableReg_codeStr (p : Config.Params) (k : Fin 3) :
    readableReg p (BitVec.ofNat 12 (0x040 + 4 * k.val)) 4 = some (.codeStr k.val) := by
  fin_cases k <;> rfl

theorem readableReg_digest (p : Config.Params) (k : Fin 5) :
    readableReg p (BitVec.ofNat 12 (0x050 + 4 * k.val)) 4 = some (.digest k.val) := by
  fin_cases k <;> rfl

/-- The KEY window lies inside the aperture (00_scope.md R9, 10_state.md R59). -/
theorem readableReg_key {p : Config.Params} {k : Nat} (hp : p.legal = true) (hk : k < p.keyMaxBytes / 4) :
    readableReg p (BitVec.ofNat 12 (0x100 + 4 * k)) 4 = some (.key k) := by
  have hmax : p.keyMaxBytes ≤ 3840 := by
    simp only [Config.Params.legal, decide_eq_true_eq] at hp
    omega
  have ha : (BitVec.ofNat 12 (0x100 + 4 * k)).toNat = 0x100 + 4 * k := by
    rw [BitVec.toNat_ofNat]
    omega
  refine readableReg_of_regAt (by omega) ?_ (by simp [regAccess])
  rw [ha, regAt_window (by omega) (by omega)]
  congr 2
  omega

/-- Between B32_STATE and OTP every aligned offset names a readable register (20_memory.md R73). -/
theorem readableReg_results {p : Config.Params} {a : BitVec 12} (hlo : 0x018 ≤ a.toNat) (hhi : a.toNat ≤ 0x03C)
    (ha : a.toNat % 4 = 0) : ∃ r, readableReg p a 4 = some r := by
  have held := fixedReg_held a.toNat (by omega) (.inl ⟨hlo, by omega⟩) ha
  cases hr : fixedReg a.toNat with
  | none => simp [hr] at held
  | some r =>
    refine ⟨r, readableReg_of_regAt ha ((regAt_fixed p (by omega)).trans hr) ?_⟩
    simp only [hr, Option.any_some, Bool.and_eq_true, Bool.not_eq_true', decide_eq_false_iff_not] at held
    exact held.2

/-! ### Reads with nothing pending -/

/-- A legal read with nothing pending, the value taken in the state before the step. -/
theorem HostMoves.step_reads {s : State} {a : BitVec 12} {r : Reg} {rest : List Event}
    (h : HostMoves s (.read a 4) rest) (hr : readableReg s.params a 4 = some r) (hp : s.pending = none) :
    step s = .next { s with inbox := rest, busResp := some (.read .okay (regValue s r)) } := by
  rw [h.step_read_idle hr hp, regValue_inbox]

/-- A read of a constant register, busy or not (20_memory.md R75). -/
theorem HostMoves.step_reads_constant {s : State} {a : BitVec 12} {r : Reg} {rest : List Event}
    (h : HostMoves s (.read a 4) rest) (hr : readableReg s.params a 4 = some r) (hh : regHeld r = false)
    (hs : r ≠ .status) :
    step s = .next { s with inbox := rest, busResp := some (.read .okay (regValue s r)) } := by
  rw [h.step_read_unheld hr hh, readReg_of_ne_status _ hs, regValue_inbox]

/-- Settles O40: the four constant registers are not held, and each reads its constant. -/
theorem constantRegistersRead : Obligations.ConstantRegistersRead := by
  intro s rest a h
  refine ⟨?_, ?_, ?_, ?_⟩
  · rintro rfl
    exact h.step_reads_constant (r := .id) rfl rfl nofun
  · rintro rfl
    exact h.step_reads_constant (r := .cfgTimeStep) rfl rfl nofun
  · rintro rfl
    exact h.step_reads_constant (r := .cfgDigits) rfl rfl nofun
  · rintro rfl
    exact h.step_reads_constant (r := .cfgKeyMax) rfl rfl nofun

/-- A STATUS read while BUSY takes a free value (10_state.md R48). -/
theorem readReg_status_busy {s : State} (hp : s.pending ≠ none) :
    readReg .status s = (statusBusy (Config.statusDraw s.draws), { s with draws := s.draws + 1 }) := by
  simp [readReg, busy, Option.isSome_iff_ne_none, hp]

/-- Settles O41: busy, the word is a free value over bit 0; idle, its fields are those of `statusFields_get`. -/
theorem statusReads : Obligations.StatusReads := by
  intro s rest h
  by_cases hp : s.pending = none
  · obtain ⟨bit0, key, counter, digest, code, mode, bit7, err, high⟩ :=
      statusFields_get s.errcode.code s.b32Mode.code s.codeValid s.digestValid s.counterValid s.keyValid
    refine ⟨_, s.draws, h.step_reads (r := .status) rfl hp, bit0.trans (by simp [hp]), fun _ =>
      ⟨rfl, key, counter, digest, code, mode.trans ?_, bit7, err.trans ?_, high⟩⟩
    · cases s.b32Mode <;> rfl
    · cases s.errcode <;> rfl
  · have hs := h.step_read_unheld (r := .status) rfl rfl
    rw [readReg_status_busy (s := { s with inbox := rest }) hp] at hs
    exact ⟨_, _, hs, (statusBusy_bit0 _).trans (Option.isSome_iff_ne_none.mpr hp).symm, fun hn => absurd hn hp⟩

/-- The high part of a concatenation weighs 2 to the width of the low part. -/
theorem append_toNat {m n : Nat} (x : BitVec m) (y : BitVec n) : (x ++ y).toNat = x.toNat * 2 ^ n + y.toNat := by
  rw [BitVec.toNat_append, ← Nat.shiftLeft_add_eq_or_of_lt y.isLt, Nat.shiftLeft_eq]

/-- B32_STATE as the number its fields spell (10_state.md R49). -/
theorem b32StateWord_toNat (s : State) :
    (b32StateWord s).toNat = s.b32Fail.code.toNat * 2 ^ 16 + (resid s).toNat * 2 ^ 8 + s.bitcnt.toNat := by
  have hr := (resid s).isLt
  have hb := s.bitcnt.isLt
  show (0#12 ++ s.b32Fail.code ++ 0#1 ++ resid s ++ 0#4 ++ s.bitcnt : BitVec (12 + 4 + 1 + 7 + 4 + 4)).toNat = _
  simp only [append_toNat, BitVec.toNat_ofNat]
  omega

/-- Every field of B32_STATE is where 10_state.md R49 puts it. -/
theorem b32StateWord_get (s : State) :
    (b32StateWord s).extractLsb' 0 4 = s.bitcnt ∧ (b32StateWord s).extractLsb' 4 4 = 0 ∧
    (b32StateWord s).extractLsb' 8 7 = resid s ∧ (b32StateWord s).getLsbD 15 = false ∧
    (b32StateWord s).extractLsb' 16 4 = s.b32Fail.code ∧ (b32StateWord s).extractLsb' 20 12 = 0 := by
  have hw := b32StateWord_toNat s
  have hf := s.b32Fail.code.isLt
  have hr := (resid s).isLt
  have hb := s.bitcnt.isLt
  have field {n : Nat} (lo : Nat) (v : BitVec n) (h : (b32StateWord s).toNat / 2 ^ lo % 2 ^ n = v.toNat) :
      (b32StateWord s).extractLsb' lo n = v :=
    BitVec.eq_of_toNat_eq ((BitVec.extractLsb'_toNat ..).trans ((Nat.shiftRight_eq_div_pow ..).symm ▸ h))
  have gap {n : Nat} (lo : Nat) (h : (b32StateWord s).toNat / 2 ^ lo % 2 ^ n = 0) :
      (b32StateWord s).extractLsb' lo n = 0 := field lo 0 (h.trans BitVec.toNat_zero.symm)
  refine ⟨field 0 _ (by omega), gap 4 (by omega), field 8 _ (by omega), ?_, field 16 _ (by omega), gap 20 (by omega)⟩
  rw [BitVec.getLsbD, Nat.testBit_eq_decide_div_mod_eq, decide_eq_false_iff_not]
  omega

/-- RESID holds the BITCNT bits of ACC that count (10_state.md R49). -/
theorem resid_toNat {s : State} (h : s.bitcnt.toNat ≤ 7) : (resid s).toNat = s.acc % 2 ^ s.bitcnt.toNat :=
  (BitVec.toNat_ofNat ..).trans (Nat.mod_eq_of_lt
    (Nat.lt_of_lt_of_le (Nat.mod_lt _ (Nat.two_pow_pos _)) (Nat.pow_le_pow_right (by decide) h)))

/-- Settles O42: each offset names its register, whose value is the element's. -/
theorem resultRegistersRead : Obligations.ResultRegistersRead := by
  intro s rest a h hp hlo hhi ha
  obtain ⟨r, hr⟩ := readableReg_results (p := s.params) hlo hhi ha
  refine ⟨regValue s r, h.step_reads hr hp, ?_, ?_, ?_, ?_, ?_, ?_, ?_, ?_, ?_, ?_⟩ <;> rintro rfl <;> cases hr
  case refine_1 =>
    obtain ⟨bits, gap, res, bit15, fail, high⟩ := b32StateWord_get s
    exact ⟨bits, gap, fun hb => (congrArg BitVec.toNat res).trans (resid_toNat hb), bit15, fail, high⟩
  case refine_2 => rfl
  case refine_3 => exact loWord_toNat s.time
  case refine_4 => exact hiWord_toNat s.time
  case refine_5 => exact loWord_toNat s.counter
  case refine_6 => exact hiWord_toNat s.counter
  case refine_7 => rfl
  case refine_8 => exact BitVec.toNat_setWidth_of_le (by decide)
  case refine_9 => rfl
  case refine_10 => rfl

/-- Settles O43: a word of an array carries its bytes in its lanes. -/
theorem arraysReadInByteOrder : Obligations.ArraysReadInByteOrder := by
  refine fun s rest hp => ⟨fun k h => ?_, fun k h => ?_⟩
  · refine ⟨_, h.step_reads (readableReg_codeStr _ k) hp, fun j => ?_⟩
    exact (lanesWord_lane _ _ j).trans (byteAt_eq s.codeStr _ (by omega))
  · refine ⟨_, h.step_reads (readableReg_digest _ k) hp, fun j => ?_⟩
    exact (lanesWord_lane _ _ j).trans (byteAt_eq s.digest _ (by omega))

/-- Settles O44: the window carries the key's bytes in its lanes while KEY_VALID, and is 0 otherwise. -/
theorem keyWindowGated : Obligations.KeyWindowGated := by
  intro s rest k hlegal hk hp h
  refine ⟨_, h.step_reads (readableReg_key hlegal hk) hp, fun hv j => ?_, fun hv => ?_⟩
  · simp only [regValue, keyWindowWord, hv, if_true, lanesWord_lane]
  · simp [regValue, keyWindowWord, hv]

/-- Settles O47: each of the three offsets names its register, and the halves of TIME add up to TIME. -/
theorem registerWrites : Obligations.RegisterWrites := by
  refine fun s rest v hp => ⟨fun h => ?_, fun h => ?_, fun h => ?_⟩
  · exact h.step_done (attempt_write_idle (s := { s with inbox := rest }) v (r := .cmd) rfl hp)
  · refine ⟨_, h.step_done (attempt_write_idle (s := { s with inbox := rest }) v (r := .timeLo) rfl hp), ?_⟩
    exact (joinWords_toNat _ _).trans (by rw [hiWord_toNat])
  · refine ⟨_, h.step_done (attempt_write_idle (s := { s with inbox := rest }) v (r := .timeHi) rfl hp), ?_⟩
    exact (joinWords_toNat _ _).trans (by rw [loWord_toNat])

end Sys2Proof.Machine
end

section
/-! PROOF. A key that is not valid never reaches the bus: every operation of the port commutes with a change of the key's
bytes (10_state.md R59). -/

namespace Sys2Proof.Machine

/-- `s` with other bytes in the key buffer (10_state.md R24). -/
def withKey (other : List Byte) (s : State) : State := { s with key := other }

@[simp] theorem withKey_params (other : List Byte) (s : State) : (withKey other s).params = s.params := rfl

@[simp] theorem withKey_outstanding (other : List Byte) (s : State) : (withKey other s).outstanding = s.outstanding := rfl

@[simp] theorem withKey_rstIn (other : List Byte) (s : State) : (withKey other s).rstIn = s.rstIn := rfl

@[simp] theorem busy_withKey (other : List Byte) (s : State) : busy (withKey other s) = busy s := rfl

section Port

variable {s : State} (other : List Byte)

/-- While KEY_VALID is 0 no register shows a byte of the key. -/
theorem regValue_withKey (hk : s.keyValid = false) (r : Reg) : regValue (withKey other s) r = regValue s r := by
  cases r
  case key k => simp [regValue, keyWindowWord, withKey, hk]
  all_goals rfl

theorem readReg_withKey (hk : s.keyValid = false) (r : Reg) :
    readReg r (withKey other s) = ((readReg r s).1, withKey other (readReg r s).2) := by
  simp only [readReg, busy_withKey, regValue_withKey other hk]
  split <;> rfl

theorem writeReg_withKey (s : State) (r : Reg) (v : Word) :
    writeReg r v (withKey other s) = withKey other (writeReg r v s) := by
  cases r <;> rfl

/-- An access answers alike and waits alike, whatever the bytes of a key that is not valid. -/
theorem attempt_withKey (hk : s.keyValid = false) (r : BusReq) :
    attempt r (withKey other s) = (attempt r s).map (Prod.map id (withKey other)) := by
  cases r with
  | read a n =>
    simp only [attempt, memRead, withKey_params, busy_withKey, readReg_withKey other hk]
    split
    · rfl
    · split <;> rfl
  | write a n v =>
    simp only [attempt, memWrite, withKey_params, busy_withKey, writeReg_withKey]
    split
    · rfl
    · split <;> rfl

theorem issueAccess_withKey (hk : s.keyValid = false) (r : BusReq) :
    issueAccess r (withKey other s) = withKey other (issueAccess r s) := by
  simp only [issueAccess, withKey_rstIn, attempt_withKey other hk]
  split
  · rfl
  · cases attempt r s <;> rfl

theorem completeOutstanding_withKey (hk : s.keyValid = false) (r : BusReq) :
    completeOutstanding r (withKey other s) = withKey other (completeOutstanding r s) := by
  simp only [completeOutstanding, attempt_withKey other hk]
  cases attempt r s <;> rfl

theorem abortOutstanding_withKey (s : State) :
    abortOutstanding (withKey other s) = withKey other (abortOutstanding s) := by
  simp only [abortOutstanding, withKey_outstanding]
  cases s.outstanding <;> rfl

/-- The CORE side's turn with nothing pending: it completes or aborts an access, or does nothing. -/
theorem coreSide_withKey (hk : s.keyValid = false) (hp : s.pending = none) :
    ∃ t, coreSide s = .next t ∧ coreSide (withKey other s) = .next (withKey other t) := by
  cases hr : s.rstIn with
  | true =>
    refine ⟨_, coreSide_in_reset hr, ?_⟩
    rw [coreSide_in_reset (s := withKey other s) hr, abortOutstanding_withKey]
  | false =>
    refine ⟨_, coreSide_idle hr hp, ?_⟩
    rw [coreSide_idle (s := withKey other s) hr hp, withKey_outstanding]
    cases s.outstanding with
    | none => rfl
    | some r => exact congrArg _ (completeOutstanding_withKey other hk r)

/-- Whose move it is does not depend on the key. -/
theorem CoreSideMoves.withKey {u : State} (h : CoreSideMoves s u) :
    CoreSideMoves (withKey other s) (withKey other u) := by
  rcases h with ⟨rest, hi, rfl⟩ | ⟨hi, rfl⟩ | ⟨r, rest, hi, ho, rfl⟩
  · exact .inl ⟨rest, hi, rfl⟩
  · exact .inr (.inl ⟨hi, rfl⟩)
  · exact .inr (.inr ⟨r, rest, hi, ho, rfl⟩)

end Port

/-- Settles O45: neither the issue of an access nor the CORE side's turn with nothing pending depends on the bytes of a key
that is not valid. -/
theorem invalidKeyNeverLeaks : Obligations.InvalidKeyNeverLeaks := by
  refine fun s other r hk => ⟨fun rest hi ho => ?_, fun u hu _ hp => ?_⟩
  · refine ⟨_, step_access hi ho, (step_access (s := withKey other s) hi ho).trans ?_⟩
    exact congrArg _ (issueAccess_withKey (s := { s with inbox := rest }) other hk r)
  · have hsu : u.keyValid = false ∧ u.pending = none := by
      rw [hu.eq_inbox]
      exact ⟨hk, hp⟩
    obtain ⟨t, ht, ht'⟩ := coreSide_withKey other hsu.1 hsu.2
    exact ⟨t, (step_of_coreSideMoves hu).trans ht, (step_of_coreSideMoves (hu.withKey other)).trans ht'⟩

end Sys2Proof.Machine
end

section
/-! PROOF. The bus hold (20_memory.md R64-R67, R74-R76): which accesses are illegal, which wait and until when, what a read
leaves unchanged, and that the pending command is executed. -/

namespace Sys2Proof.Machine

/-! ### Illegal accesses -/

/-- A legal read is 32 bits wide, aligned, and of a register that can be read (20_memory.md R66, R67). -/
theorem readableReg_some {p : Config.Params} {a : BitVec 12} {n : Nat} {r : Reg} (h : readableReg p a n = some r) :
    n = 4 ∧ a.toNat % 4 = 0 ∧ regAt p a.toNat = some r ∧ regAccess r ≠ .wo := by
  unfold readableReg alignedReg at h
  split at h
  next r' hr =>
    obtain ⟨⟨hwidth, halign⟩, hr⟩ := Option.ite_none_right_eq_some.mp hr
    obtain ⟨hacc, hrr⟩ := Option.ite_none_left_eq_some.mp h
    cases hrr
    exact ⟨hwidth, halign, hr, hacc⟩
  next => cases h

/-- The offsets where nothing can be read: CMD and the reserved ones (20_memory.md R67; 10_state.md R47, R60). -/
theorem regAt_unreadable {p : Config.Params} {off : Nat}
    (h : off = 0x010 ∨ off = 0x04C ∨ (0x064 ≤ off ∧ off ≤ 0x0FF) ∨ 0x100 + p.keyMaxBytes ≤ off) :
    regAt p off = some .cmd ∨ regAt p off = none := by
  rcases h with rfl | hgap | ⟨hlo, hhi⟩ | hbeyond
  · exact .inl rfl
  · exact .inr ((regAt_fixed p (by omega)).trans (fixedReg_reserved off (by omega) (.inl hgap)))
  · exact .inr ((regAt_fixed p (by omega)).trans (fixedReg_reserved off (by omega) (.inr hlo)))
  · exact .inr (regAt_beyond hbeyond)

/-- The illegal reads: misaligned, not 32 bits wide, of CMD, or at a reserved offset (20_memory.md R66, R67). -/
theorem readableReg_illegal {p : Config.Params} {a : BitVec 12} {n : Nat}
    (h : n ≠ 4 ∨ a.toNat % 4 ≠ 0 ∨ a.toNat = 0x010 ∨ a.toNat = 0x04C ∨ (0x064 ≤ a.toNat ∧ a.toNat ≤ 0x0FF) ∨
      0x100 + p.keyMaxBytes ≤ a.toNat) : readableReg p a n = none := by
  refine Option.eq_none_iff_forall_ne_some.mpr fun r hr => ?_
  obtain ⟨hwidth, halign, hreg, hacc⟩ := readableReg_some hr
  rcases h with h | h | h
  · exact h hwidth
  · exact h halign
  · rcases regAt_unreadable h with h | h <;> cases h.symm.trans hreg
    exact hacc rfl

/-- The illegal writes: not 32 bits wide, or of anything but CMD, TIME_LO and TIME_HI (20_memory.md R66, R67). -/
theorem writableReg_illegal {p : Config.Params} {a : BitVec 12} {n : Nat}
    (h : n ≠ 4 ∨ ¬ (a.toNat = 0x010 ∨ a.toNat = 0x020 ∨ a.toNat = 0x024)) : writableReg p a n = none := by
  rcases h with hwidth | hoff
  · simp [writableReg, alignedReg, hwidth]
  · cases hr : writableReg p a n with
    | none => rfl
    | some r => rcases writableReg_some hr with ⟨rfl, _⟩ | ⟨rfl, _⟩ | ⟨rfl, _⟩ <;> exact absurd (by decide) hoff

/-- Settles O38: an illegal access names no register of its direction, and such an access is answered at once. -/
theorem illegalAccessGetsSlverr : Obligations.IllegalAccessGetsSlverr := fun s rest _ _ v =>
  ⟨fun h ha => h.step_done (attempt_read_illegal { s with inbox := rest } (readableReg_illegal ha)),
    fun h ha => h.step_done (attempt_write_illegal { s with inbox := rest } v (writableReg_illegal ha))⟩

/-! ### The hold -/

/-- A legal access to a register under the bus hold (20_memory.md R75). -/
def BusReq.held (p : Config.Params) : BusReq → Bool
  | .read a n => (readableReg p a n).any regHeld
  | .write a n _ => (writableReg p a n).any regHeld

/-- An access waits exactly when it is a held one and a command is pending (20_memory.md R75). -/
theorem attempt_eq_none_iff {r : BusReq} {s : State} :
    attempt r s = none ↔ s.pending ≠ none ∧ r.held s.params = true := by
  cases r with
  | read a n =>
    cases h : readableReg s.params a n <;>
      simp [attempt, memRead, BusReq.held, h, busy, Option.isSome_iff_ne_none, and_comm]
  | write a n v =>
    cases h : writableReg s.params a n <;>
      simp [attempt, memWrite, BusReq.held, h, busy, Option.isSome_iff_ne_none, and_comm]

/-- A held access issued while a command is pending becomes the outstanding one. -/
theorem HostMoves.step_held {s : State} {r : BusReq} {rest : List Event} (h : HostMoves s r rest)
    (hp : s.pending ≠ none) (hr : r.held s.params = true) :
    step s = .next { s with inbox := rest, outstanding := some r } :=
  h.step_waits (attempt_eq_none_iff.mpr ⟨hp, hr⟩)

/-- The held reads below the KEY window. -/
theorem held_read_fixed (p : Config.Params) {a : BitVec 12} (ha : a.toNat % 4 = 0)
    (h : (0x018 ≤ a.toNat ∧ a.toNat ≤ 0x048) ∨ (0x050 ≤ a.toNat ∧ a.toNat ≤ 0x060)) :
    (BusReq.read a 4).held p = true := by
  have held := fixedReg_held a.toNat (by omega) h ha
  cases hr : fixedReg a.toNat with
  | none => simp [hr] at held
  | some r =>
    simp only [hr, Option.any_some, Bool.and_eq_true, Bool.not_eq_true', decide_eq_false_iff_not] at held
    obtain ⟨hheld, hacc⟩ := held
    simp [BusReq.held, readableReg_of_regAt ha ((regAt_fixed p (by omega)).trans hr) hacc, hheld]

/-- The held reads in the KEY window. -/
theorem held_read_window {p : Config.Params} {a : BitVec 12} (ha : a.toNat % 4 = 0) (hlo : 0x100 ≤ a.toNat)
    (hhi : a.toNat < 0x100 + p.keyMaxBytes) : (BusReq.read a 4).held p = true := by
  simp [BusReq.held, readableReg_of_regAt ha (regAt_window hlo hhi) nofun, regHeld]

/-- Each of the three registers that can be written is held. -/
theorem held_write (p : Config.Params) {a : BitVec 12} (v : Word)
    (h : a.toNat = 0x010 ∨ a.toNat = 0x020 ∨ a.toNat = 0x024) : (BusReq.write a 4 v).held p = true := by
  rcases h with h | h | h
  · cases (BitVec.eq_of_toNat_eq h : a = 0x010)
    rfl
  · cases (BitVec.eq_of_toNat_eq h : a = 0x020)
    rfl
  · cases (BitVec.eq_of_toNat_eq h : a = 0x024)
    rfl

/-- Settles O39: every listed offset is held, and a held access waits. -/
theorem heldAccessWaits : Obligations.HeldAccessWaits := by
  refine fun s rest a v hp => ⟨fun h ha hrange => h.step_held hp ?_, fun h ha => h.step_held hp (held_write _ v ha)⟩
  rcases hrange with hrange | hrange | ⟨hlo, hhi⟩
  · exact held_read_fixed _ ha (.inl hrange)
  · exact held_read_fixed _ ha (.inr hrange)
  · exact held_read_window ha hlo hhi

/-! ### Reads -/

/-- A read that completes changes nothing, except that a STATUS read while BUSY counts a draw (20_memory.md R64;
10_state.md R48; log 4). -/
theorem attempt_read_cases {a : BitVec 12} {n : Nat} {s t : State} {resp : BusResp}
    (h : attempt (.read a n) s = some (resp, t)) :
    t = s ∨ s.pending ≠ none ∧ t = { s with draws := s.draws + 1 } := by
  simp only [attempt, memRead] at h
  split at h
  · cases h
    exact .inl rfl
  · split at h
    · cases h
    · cases h
      unfold readReg
      split
      next hbusy => exact .inr ⟨Option.isSome_iff_ne_none.mp hbusy.2, rfl⟩
      next => exact .inl rfl

/-- With nothing pending an access completes (20_memory.md R75). -/
theorem attempt_completes_of_idle (r : BusReq) {s : State} (h : s.pending = none) :
    ∃ resp t, attempt r s = some (resp, t) := by
  obtain ⟨⟨resp, t⟩, ha⟩ := Option.ne_none_iff_exists'.mp (attempt_ne_none_of_idle (r := r) h)
  exact ⟨resp, t, ha⟩

theorem completeOutstanding_done {r : BusReq} {s t : State} {resp : BusResp} (h : attempt r s = some (resp, t)) :
    completeOutstanding r s = { t with outstanding := none, busResp := some resp } := by
  simp [completeOutstanding, h]

/-- The CORE side's turn with nothing pending completes a waiting read, with a bus error while `rst` is asserted, and
changes nothing else (20_memory.md R75; 70_reset_and_hazards.md R144). -/
theorem coreSide_completes_read {s : State} {a : BitVec 12} {n : Nat} (hp : s.pending = none)
    (ho : s.outstanding = some (.read a n)) :
    ∃ resp, coreSide s = .next { s with busResp := some resp, outstanding := none } := by
  rcases Bool.eq_false_or_eq_true s.rstIn with hr | hr
  · rw [coreSide_in_reset hr]
    simp only [abortOutstanding, ho]
    exact ⟨_, rfl⟩
  · obtain ⟨resp, t, ha⟩ := attempt_completes_of_idle (.read a n) hp
    rw [coreSide_idle hr hp, ho]
    rcases attempt_read_cases ha with rfl | ⟨hbusy, _⟩
    · exact ⟨resp, congrArg Host.Outcome.next (completeOutstanding_done ha)⟩
    · exact absurd hp hbusy

/-- A read as it is issued changes only the bus port and the draw count. -/
theorem HostMoves.step_read_frame {s : State} {a : BitVec 12} {n : Nat} {rest : List Event}
    (h : HostMoves s (.read a n) rest) :
    ∃ t, step s = .next t ∧
      t = { s with inbox := rest, busResp := t.busResp, outstanding := t.outstanding, draws := t.draws } := by
  cases ha : attempt (.read a n) { s with inbox := rest } with
  | none => exact ⟨_, h.step_waits ha, rfl⟩
  | some p =>
    refine ⟨_, h.step_done ha, ?_⟩
    rcases attempt_read_cases ha with ht | ⟨_, ht⟩ <;> rw [ht]

/-- Settles O48: a read changes nothing of the CORE when it is issued, nor when it completes after a wait. -/
theorem readsHaveNoSideEffect : Obligations.ReadsHaveNoSideEffect := by
  refine ⟨fun _ _ _ _ h => h.step_read_frame, fun s u a n hu hp ho => ?_⟩
  rw [step_of_coreSideMoves hu]
  have hus := hu.eq_inbox
  exact coreSide_completes_read (by rw [hus]; exact hp) (by rw [hus]; exact ho)

/-! ### The execution step -/

/-- The CORE side's move with a command pending: the execution step (20_memory.md R74). -/
theorem CoreSideMoves.step_executes {s t u : State} {w : Word} (h : CoreSideMoves s t) (hr : s.rstIn = false)
    (hp : s.pending = some w) (hx : execute w t = .next u) : step s = .next { u with pending := none } := by
  have hts := h.eq_inbox
  rw [step_of_coreSideMoves h, coreSide_pending (w := w) (by rw [hts]; exact hr) (by rw [hts]; exact hp), hx]
  rfl

/-- Settles O4: the word executed is the command it decodes to. -/
theorem stepRunsDecodedCommand : Obligations.StepRunsDecodedCommand := by
  intro s t w i h hr hp hd
  obtain ⟨u, hu⟩ := exec_answers_next i t
  exact ⟨u, hu, h.step_executes hr hp ((execute_ok t hd).trans hu)⟩

/-- A command leaves the port as it was, whether or not it samples the clock. -/
theorem exec_portKept {i : Instr} {s t : State} (h : exec i s = .next t) : PortKept s t := by
  rcases exec_outside h with h | ⟨_, h⟩
  · rw [h]
    rfl
  · exact h

/-- So does the execution of any word, legal or not (30_encoding.md R86). -/
theorem execute_portKept {w : Word} {s t : State} (h : execute w s = .next t) : PortKept s t := by
  cases hd : decode w with
  | ok i => exact exec_portKept (execute_ok s hd ▸ h)
  | error e =>
    rw [execute_error s hd] at h
    cases h
    rfl

/-- The CORE side's move with nothing pending, out of reset: the outstanding access is performed (20_memory.md R75). -/
theorem CoreSideMoves.step_completes {s t : State} {r : BusReq} (h : CoreSideMoves s t) (hr : s.rstIn = false)
    (hp : s.pending = none) (ho : s.outstanding = some r) :
    ∃ resp u, attempt r t = some (resp, u) ∧ step s = .next { u with outstanding := none, busResp := some resp } := by
  have hts := h.eq_inbox
  have hpt : t.pending = none := by rw [hts]; exact hp
  have hot : t.outstanding = some r := by rw [hts]; exact ho
  obtain ⟨resp, u, ha⟩ := attempt_completes_of_idle r hpt
  refine ⟨resp, u, ha, ?_⟩
  rw [step_of_coreSideMoves h, coreSide_idle (by rw [hts]; exact hr) hpt, hot]
  exact congrArg _ (completeOutstanding_done ha)

/-! ### Runs -/

/-- A run of any machine begins with its first step. -/
theorem coreRun_succ (M : Host.Core) {s t : M.State} (k : Nat) (h : M.step s = .next t) : M.run (k + 1) s = M.run k t := by
  rw [Host.Core.run, h]

/-- So does a run of this one. -/
theorem run_succ_of_step {s t : State} (k : Nat) (h : step s = .next t) :
    Sys2Proof.core.run (k + 1) s = Sys2Proof.core.run k t :=
  coreRun_succ Sys2Proof.core k h

/-- Settles O49 in three steps: the access waits, the word is executed, the access is performed. -/
theorem heldAccessSeesTheCommand : Obligations.HeldAccessSeesTheCommand := by
  intro s c u v w r rest h hp ha hc hx hv
  obtain ⟨hbusy, hheld⟩ := attempt_eq_none_iff.mp ha
  have ⟨_, _, hr⟩ := h
  have hport : u.rstIn = s.rstIn ∧ u.outstanding = some r := by
    rw [execute_portKept hx, hc.eq_inbox]
    exact ⟨rfl, rfl⟩
  obtain ⟨hur, huo⟩ := hport
  obtain ⟨resp, t, hdone, hcomplete⟩ := hv.step_completes (hur.trans hr) rfl huo
  refine ⟨resp, t, hdone, ?_⟩
  rw [run_succ_of_step 2 (h.step_held hbusy hheld), run_succ_of_step 1 (hc.step_executes hr hp hx),
    run_succ_of_step 0 hcomplete]
  rfl

/-- While a command is pending no access writes: the three registers that can be written are held, so an access completes
only where it is an illegal one or a read (20_memory.md R75). -/
theorem attempt_busy {r : BusReq} {s t : State} {resp : BusResp} (hp : s.pending ≠ none)
    (h : attempt r s = some (resp, t)) : ∃ n, t = { s with draws := n } := by
  cases r with
  | read a n =>
    rcases attempt_read_cases h with rfl | ⟨_, rfl⟩
    · exact ⟨t.draws, rfl⟩
    · exact ⟨_, rfl⟩
  | write a n v =>
    cases hr : writableReg s.params a n with
    | none =>
      rw [attempt_write_illegal s v hr] at h
      cases h
      exact ⟨s.draws, rfl⟩
    | some reg =>
      have hheld : regHeld reg = true := by
        rcases writableReg_some hr with ⟨_, rfl⟩ | ⟨_, rfl⟩ | ⟨_, rfl⟩ <;> rfl
      have hwaits : attempt (.write a n v) s = none :=
        attempt_eq_none_iff.mpr ⟨hp, by simp [BusReq.held, hr, hheld]⟩
      exact nomatch hwaits.symm.trans h

/-- An access issued while a command is pending leaves the command pending, and `rst` and the inbox as they are. -/
theorem issueAccess_busy (r : BusReq) {s : State} (hr : s.rstIn = false) (hp : s.pending ≠ none) :
    (issueAccess r s).pending = s.pending ∧ (issueAccess r s).rstIn = false ∧ (issueAccess r s).inbox = s.inbox := by
  cases ha : attempt r s with
  | none =>
    rw [issueAccess_waits hr ha]
    exact ⟨rfl, hr, rfl⟩
  | some p =>
    obtain ⟨n, ht⟩ := attempt_busy hp ha
    rw [issueAccess_done hr ha, ht]
    exact ⟨rfl, hr, rfl⟩

/-- What a step out of reset does with a pending command where no `rst` is listed first: the CORE side executes it, or it
stays pending and the inbox is one access shorter. -/
theorem step_of_pending {s : State} (hr : s.rstIn = false) (hp : s.pending ≠ none)
    (hrst : ∀ b, Event.rst b ∉ s.inbox) :
    (∃ t, step s = .next t ∧ t.pending = none) ∨
      ∃ t e, step s = .next t ∧ t.pending ≠ none ∧ t.rstIn = false ∧ s.inbox = e :: t.inbox := by
  rcases step_cases s with ⟨b, rest, hi, _⟩ | ⟨r, rest, hi, _, hs⟩ | ⟨u, hu, _⟩
  · exact absurd (hi ▸ List.mem_cons_self) (hrst b)
  · obtain ⟨hpend, hlevel, hin⟩ := issueAccess_busy r (s := { s with inbox := rest }) hr hp
    exact .inr ⟨_, .access r, hs, hpend.trans_ne hp, hlevel, hi.trans (congrArg _ hin.symm)⟩
  · obtain ⟨w, hw⟩ := Option.ne_none_iff_exists'.mp hp
    obtain ⟨v, hv⟩ := execute_answers_next w u
    exact .inl ⟨_, hu.step_executes hr hw hv, rfl⟩

/-- Settles O50, by induction on the inbox: each access that leaves the command pending shortens it. -/
theorem pendingIsEventuallyExecuted : Obligations.PendingIsEventuallyExecuted := by
  intro s
  induction hl : s.inbox generalizing s with
  | nil =>
    intro hr hp _
    rcases step_of_pending hr hp (by simp [hl]) with ⟨t, hs, hdone⟩ | ⟨t, e, _, _, _, hi⟩
    · exact ⟨1, by simp, t, run_succ_of_step 0 hs, hdone⟩
    · exact nomatch hl.symm.trans hi
  | cons e rest ih =>
    intro hr hp hrst
    rcases step_of_pending hr hp (hl ▸ hrst) with ⟨t, hs, hdone⟩ | ⟨t, e', hs, htp, htr, hi⟩
    · exact ⟨1, by simp, t, run_succ_of_step 0 hs, hdone⟩
    · obtain ⟨-, hrest⟩ := List.cons.inj (hl.symm.trans hi)
      obtain ⟨k, hk, u, hrun, hdone⟩ := ih t hrest.symm htr htp fun b hb => hrst b (List.mem_cons_of_mem _ hb)
      exact ⟨k + 1, by simpa using hk, u, (run_succ_of_step k hs).trans hrun, hdone⟩

end Sys2Proof.Machine
end

section
/-! PROOF. The aperture as one little-endian image of bytes (20_memory.md R69). -/

namespace Sys2Proof.Machine

/-- Byte `j` of an aligned word is lane `j` of the readable register at the word's offset (20_memory.md R68, R69). -/
theorem apertureByte_lane {s : State} {base j : Nat} {r : Reg} (hb : base % 4 = 0) (hj : j < 4)
    (hr : regAt s.params base = some r) (hacc : regAccess r ≠ .wo) :
    apertureByte (base + j) s = some (laneByte (regValue s r) j) := by
  have hword : (base + j) / 4 * 4 = base := by omega
  have hlane : (base + j) % 4 = j := by omega
  simp [apertureByte, hword, hlane, hr, hacc]

/-! ### Arrays -/

/-- Byte `i` of an array lies at base + i, where each word of the array carries its four bytes. -/
theorem apertureByte_array {s : State} {base i : Nat} {r : Reg} {bs : List Byte} (hb : base % 4 = 0)
    (hr : regAt s.params (base + 4 * (i / 4)) = some r) (hacc : regAccess r ≠ .wo)
    (hv : regValue s r = lanesWord bs (i / 4)) : apertureByte (base + i) s = some (bs.getD i 0) := by
  have hlane := apertureByte_lane (s := s) (j := i % 4) (by omega) (Nat.mod_lt i (by decide)) hr hacc
  rw [Nat.add_assoc, Nat.div_add_mod, hv] at hlane
  have hbyte := lanesWord_lane bs (i / 4) ⟨i % 4, Nat.mod_lt i (by decide)⟩
  rw [Nat.div_add_mod] at hbyte
  exact hlane.trans (congrArg some hbyte)

theorem regAt_codeStr (p : Config.Params) : ∀ k < 3, regAt p (0x040 + 4 * k) = some (.codeStr k)
  | 0, _ | 1, _ | 2, _ => rfl

theorem regAt_digest (p : Config.Params) : ∀ k < 5, regAt p (0x050 + 4 * k) = some (.digest k)
  | 0, _ | 1, _ | 2, _ | 3, _ | 4, _ => rfl

theorem regAt_key {p : Config.Params} {k : Nat} (h : 4 * k < p.keyMaxBytes) :
    regAt p (0x100 + 4 * k) = some (.key k) := by
  rw [regAt_window (by omega) (by omega), show (0x100 + 4 * k - 0x100) / 4 = k by omega]

/-! ### 64-bit numbers -/

/-- Byte `j` of the low half is byte `j` of the number. -/
theorem laneByte_loWord (x : DWord) {j : Nat} (hj : j < 4) :
    laneByte (loWord x) j = BitVec.ofNat 8 (x.toNat / 2 ^ (8 * j)) := by
  rw [laneByte, loWord, BitVec.extractLsb'_extractLsb'_of_le (by omega), BitVec.extractLsb',
    Nat.shiftRight_eq_div_pow]

/-- Byte `j` of the high half is byte `4 + j` of the number. -/
theorem laneByte_hiWord (x : DWord) (j : Nat) :
    laneByte (hiWord x) j = BitVec.ofNat 8 (x.toNat / 2 ^ (8 * (4 + j))) := by
  rw [laneByte, BitVec.extractLsb', Nat.shiftRight_eq_div_pow, hiWord_toNat, Nat.div_div_eq_div_mul, ← Nat.pow_add,
    Nat.mul_add]

/-- Byte `i` of a 64-bit number lies at base + i, where the low word is at the base and the high word behind it. -/
theorem apertureByte_dword {s : State} {base : Nat} {lo hi : Reg} {x : DWord} (hb : base % 4 = 0)
    (hlo : regAt s.params base = some lo) (hhi : regAt s.params (base + 4) = some hi)
    (hacclo : regAccess lo ≠ .wo) (hacchi : regAccess hi ≠ .wo)
    (hvlo : regValue s lo = loWord x) (hvhi : regValue s hi = hiWord x) (i : Fin 8) :
    apertureByte (base + i.val) s = some (BitVec.ofNat 8 (x.toNat / 2 ^ (8 * i.val))) := by
  by_cases h : i.val < 4
  · rw [apertureByte_lane hb h hlo hacclo, hvlo, laneByte_loWord x h]
  · obtain ⟨j, hj⟩ := Nat.exists_eq_add_of_le (Nat.not_lt.mp h)
    rw [hj, ← Nat.add_assoc, apertureByte_lane (by omega) (by omega) hhi hacchi, hvhi, laneByte_hiWord]

/-- Settles O46: arrays through their words, TIME and COUNTER through their halves. -/
theorem apertureIsLittleEndian : Obligations.ApertureIsLittleEndian := by
  refine fun s => ⟨fun i => ?_, fun i => ?_, fun hk i hi => ?_, ?_, ?_⟩
  · exact (apertureByte_array (by decide) (regAt_digest _ _ (by omega)) nofun rfl).trans
      (congrArg some (byteAt_eq s.digest i i.isLt))
  · exact (apertureByte_array (by decide) (regAt_codeStr _ _ (by omega)) nofun rfl).trans
      (congrArg some (byteAt_eq s.codeStr i i.isLt))
  · exact apertureByte_array (by decide) (regAt_key (by omega)) nofun (by simp [regValue, keyWindowWord, hk])
  · exact apertureByte_dword (lo := .timeLo) (hi := .timeHi) (by decide) rfl rfl nofun nofun rfl rfl
  · exact apertureByte_dword (lo := .counterLo) (hi := .counterHi) (by decide) rfl rfl nofun nofun rfl rfl

end Sys2Proof.Machine
end

section
/-! PROOF. The fields of a command word, the opcode map and the decoder (30_encoding.md R82-R87, R91). -/

namespace Sys2Proof

/-! ### Fields -/

theorem RawCmd.ofWord_toWord (r : RawCmd) : RawCmd.ofWord r.toWord = r := by
  have hop : opField r.toWord = r.op := calc
    _ = (r.op ++ r.rsvd).extractLsb' 16 8 := BitVec.extractLsb'_append_eq_of_le (by decide)
    _ = r.op := BitVec.extractLsb'_append_eq_left
  have hrsvd : rsvdField r.toWord = r.rsvd := calc
    _ = (r.op ++ r.rsvd).extractLsb' 0 16 := BitVec.extractLsb'_append_eq_of_le (by decide)
    _ = r.rsvd := BitVec.extractLsb'_append_eq_right
  have himm : immField r.toWord = r.imm8 := BitVec.extractLsb'_append_eq_right
  rw [RawCmd.ofWord, hop, hrsvd, himm]

theorem RawCmd.toWord_ofWord (w : Word) : (RawCmd.ofWord w).toWord = w := by
  have hhigh : opField w ++ rsvdField w = w.extractLsb' 8 24 :=
    BitVec.extractLsb'_append_extractLsb'_eq_extractLsb' rfl
  calc
    _ = w.extractLsb' 8 24 ++ immField w := congrArg (· ++ immField w) hhigh
    _ = w := BitVec.extractLsb'_append_extractLsb'

/-- The fields of a word determine it (30_encoding.md R82). -/
theorem eq_toWord_iff {w : Word} {r : RawCmd} : w = r.toWord ↔ RawCmd.ofWord w = r where
  mp h := h ▸ r.ofWord_toWord
  mpr h := h ▸ (RawCmd.toWord_ofWord w).symm

theorem eq_encode_iff {w : Word} {i : Instr} :
    w = encode i ↔ opField w = opcodeOf i ∧ rsvdField w = 0 ∧ immField w = operandOf i := by
  rw [encode, eq_toWord_iff, RawCmd.ofWord, RawCmd.mk.injEq]

/-! ### The opcode map -/

theorem selectOp_opcodeOf (i : Instr) : selectOp (opcodeOf i) (operandOf i) = some i := by
  cases i <;> rfl

/-- No two OPs select one command (30_encoding.md R85). -/
theorem eq_opcodeOf_of_selectOp {op imm : Byte} {i : Instr} (h : selectOp op imm = some i) : op = opcodeOf i := by
  unfold selectOp at h
  split at h <;> cases h <;> exact BitVec.eq_of_toNat_eq ‹op.toNat = _›

/-- IMM8 is the operand of the command selected, or is 0 by the test of 30_encoding.md R84. -/
theorem eq_operandOf_of_selectOp {imm : Byte} {i : Instr} (h : selectOp (opcodeOf i) imm = some i)
    (hstray : takesOperand (opcodeOf i) = false → imm = 0) : imm = operandOf i := by
  cases i
  case b32Char | keyByte => cases h; rfl
  all_goals exact hstray rfl

theorem operandOf_eq_zero {i : Instr} (h : takesOperand (opcodeOf i) = false) : operandOf i = 0 := by
  cases i
  case b32Char | keyByte => nomatch h
  all_goals rfl

/-! ### The decoder -/

/-- The three tests a legal word passes (30_encoding.md R86). -/
theorem decode_eq_ok_iff {w : Word} {i : Instr} :
    decode w = .ok i ↔ selectOp (opField w) (immField w) = some i ∧ rsvdField w = 0 ∧
      (takesOperand (opField w) = false → immField w = 0) := by
  unfold decode
  cases selectOp (opField w) (immField w) with
  | none => simp
  | some j =>
    split_ifs with hrsvd hstray
    · exact ⟨nofun, fun ⟨_, h, _⟩ => absurd h hrsvd⟩
    · obtain ⟨hnone, himm⟩ := hstray
      exact ⟨nofun, fun ⟨_, _, h⟩ => absurd (h hnone) himm⟩
    · have htests : rsvdField w = 0 ∧ (takesOperand (opField w) = false → immField w = 0) :=
        ⟨not_not.mp hrsvd, not_and_not_right.mp hstray⟩
      rw [and_iff_left htests, Except.ok.injEq, Option.some.injEq]

/-- Settles O1: a word passes the decoder's tests exactly when its fields are those of the command's encoding. -/
theorem decodeInvertsEncode : Obligations.DecodeInvertsEncode := by
  intro w i
  rw [decode_eq_ok_iff, eq_encode_iff]
  constructor
  · rintro ⟨hsel, hrsvd, hstray⟩
    have hop : opField w = opcodeOf i := eq_opcodeOf_of_selectOp hsel
    rw [hop] at hsel hstray
    exact ⟨hop, hrsvd, eq_operandOf_of_selectOp hsel hstray⟩
  · rintro ⟨hop, hrsvd, himm⟩
    rw [hop, himm]
    exact ⟨selectOp_opcodeOf i, hrsvd, operandOf_eq_zero⟩

theorem decode_encode (i : Instr) : decode (encode i) = .ok i :=
  (decodeInvertsEncode _ i).mpr rfl

/-- Settles O2: each legal word is the encoding of its command, and each illegal one fails one test. -/
theorem workedEncodingsDecode : Obligations.WorkedEncodingsDecode :=
  ⟨decode_encode .nop, decode_encode .sreset, decode_encode .b32Start, decode_encode (.b32Char 0x4A),
    decode_encode (.b32Char 0x3D), decode_encode .b32End, decode_encode .keyClear, decode_encode (.keyByte 0x31),
    decode_encode .timeNow, decode_encode .div, decode_encode .remainNow, decode_encode .hmac, decode_encode .trunc,
    decode_encode .genAt, decode_encode .genNow, by decide, by decide, by decide⟩

end Sys2Proof
end

section
/-! PROOF. The control commands (40_control.md R92, R93). -/

namespace Sys2Proof.Machine

/-- Settles O6: NOP does what ends every command without an error, and no more. -/
theorem nopOnlySetsOk : Obligations.NopOnlySetsOk :=
  ⟨decode_encode .nop, fun _ => rfl⟩

/-- After a software reset no flag stands, no session is open and no error is recorded (10_state.md R48, R61). -/
theorem statusExact_resetElements (s : State) : statusExact (resetElements s) = 0 := calc
  _ = statusFields ErrCode.ok.code B32Mode.idle.code false false false false := rfl
  _ = 0 := by decide

/-- A hardware reset leaves the elements that a software reset leaves (40_control.md R93, 70_reset_and_hazards.md R144);
they differ in PENDING and around the elements. -/
theorem driveRst_asserted_eq_resetElements (s : State) :
    driveRst true s = { resetElements s with
      pending := none, outstanding := none, busResp := (driveRst true s).busResp, rstIn := true } := by
  rw [driveRst_asserted]
  rfl

/-- Settles O7: SRESET is `resetElements`, and an assertion of `rst` leaves the same elements. -/
theorem sresetRestoresResetValues : Obligations.SresetRestoresResetValues := by
  refine ⟨decode_encode .sreset, fun s => ⟨resetElements s, rfl, rfl, statusExact_resetElements s, fun rest => ?_⟩⟩
  refine ⟨driveRst true { s with inbox := rest }, step_rst rfl, ?_⟩
  exact driveRst_asserted_eq_resetElements { s with inbox := rest }

end Sys2Proof.Machine
end

section
/-! PROOF. The base32_decoder and the raw key: the alphabet, then one equation for each way a command ends
(41_base32_decoder.md R94-R103). -/

namespace Sys2Proof.Machine

/-! ### The alphabet -/

theorem fold_toNat (c : Byte) :
    (fold c).toNat = if 0x61 ≤ c.toNat ∧ c.toNat ≤ 0x7A then c.toNat - 0x20 else c.toNat := by
  unfold fold
  split
  next h => exact BitVec.toNat_sub_of_le (BitVec.le_def.mpr (Nat.le_trans (by decide) h.1))
  next => rfl

theorem b32Value_eq_some_iff {u : Byte} {v : BitVec 5} :
    b32Value u = some v ↔
      (0x41 ≤ u.toNat ∧ u.toNat ≤ 0x5A ∧ v.toNat = u.toNat - 0x41) ∨
      (0x32 ≤ u.toNat ∧ u.toNat ≤ 0x37 ∧ v.toNat = u.toNat - 0x32 + 26) := by
  unfold b32Value
  split_ifs with hletter hdigit
  · rw [Option.some.injEq, ← BitVec.toNat_inj, BitVec.toNat_ofNat]
    omega
  · rw [Option.some.injEq, ← BitVec.toNat_inj, BitVec.toNat_ofNat]
    omega
  · exact ⟨nofun, by omega⟩

/-- A byte that is no letter of either case and no digit `2`-`7` has no value (41_base32_decoder.md R94, R95). -/
theorem b32Value_fold_eq_none {c : Byte} (hupper : ¬ (0x41 ≤ c.toNat ∧ c.toNat ≤ 0x5A))
    (hlower : ¬ (0x61 ≤ c.toNat ∧ c.toNat ≤ 0x7A)) (hdigit : ¬ (0x32 ≤ c.toNat ∧ c.toNat ≤ 0x37)) :
    b32Value (fold c) = none := by
  refine Option.eq_none_iff_forall_ne_some.mpr fun v hv => ?_
  rw [b32Value_eq_some_iff, fold_toNat, if_neg hlower] at hv
  omega

theorem isSymbol_iff {c : Byte} : isSymbol c = true ↔ c ≠ padByte ∧ ∃ v, b32Value (fold c) = some v := by
  simp [isSymbol, Option.isSome_iff_exists]

/-- Settles O8: the value of a byte and the folding, each by the ranges of its definition. -/
theorem alphabetAndFolding : Obligations.AlphabetAndFolding :=
  ⟨fun _ _ => b32Value_eq_some_iff, fold_toNat⟩

/-! ### A character, by the mode of the session -/

section Character

variable {s : State}

theorem exec_b32Char_idle (c : Byte) (hm : s.b32Mode = .idle) :
    exec (.b32Char c) s = .next (raiseErr .sequence s) := by
  simp only [exec, execB32Char, hm]

theorem exec_b32Char_failed (c : Byte) (hm : s.b32Mode = .failed) :
    exec (.b32Char c) s = .next (raiseErr s.b32Fail s) := by
  simp only [exec, execB32Char, hm]

theorem exec_b32Char_active (c : Byte) (hm : s.b32Mode = .active) :
    exec (.b32Char c) s = .next (b32Accept c s) := by
  simp only [exec, execB32Char, hm]

/-! ### A character in an ACTIVE session -/

theorem b32Accept_pad (s : State) : b32Accept padByte s = finish s := rfl

theorem b32Accept_invalid {c : Byte} (s : State) (hpad : c ≠ padByte) (hv : b32Value (fold c) = none) :
    b32Accept c s = b32FailWith .invalidCharacter s := by
  simp only [b32Accept, if_neg hpad, hv]

theorem b32Accept_symbol {c : Byte} {v : BitVec 5} (s : State) (hpad : c ≠ padByte)
    (hv : b32Value (fold c) = some v) : b32Accept c s = b32Shift v s := by
  simp only [b32Accept, if_neg hpad, hv]

theorem b32Shift_of_holds (v : BitVec 5) (h : s.bitcnt.toNat + 5 < 8) :
    b32Shift v s = storeAccumulated (accumulate v s) s := by
  simp only [b32Shift, (accumulate_holds v h).2]

theorem b32Shift_of_emits (v : BitVec 5) (h : 8 ≤ s.bitcnt.toNat + 5) (hroom : s.keyLen ≠ s.params.keyMaxBytes) :
    b32Shift v s = storeAccumulated (accumulate v s)
      (appendKey (BitVec.ofNat 8 ((accumulate v s).acc / 2 ^ (s.bitcnt.toNat + 5 - 8))) s) := by
  have hfull : keyFull s = false := beq_false_of_ne hroom
  simp only [b32Shift, (accumulate_emits v h).2, hfull, Bool.false_eq_true, if_false]

theorem b32Shift_of_full (v : BitVec 5) (h : 8 ≤ s.bitcnt.toNat + 5) (hroom : s.keyLen = s.params.keyMaxBytes) :
    b32Shift v s = b32FailWith .keyOverflow s := by
  have hfull : keyFull s = true := beq_iff_eq.mpr hroom
  simp only [b32Shift, (accumulate_emits v h).2, hfull, if_true]

/-- The new bit count fits BITCNT, whatever that held, so that storing it loses nothing (10_state.md R21). -/
theorem accumulate_bitcnt_lt (v : BitVec 5) (s : State) : (accumulate v s).bitcnt < 2 ^ 4 := by
  have := s.bitcnt.isLt
  by_cases h : 8 ≤ s.bitcnt.toNat + 5
  · have := (accumulate_emits v h).1
    omega
  · have := (accumulate_holds v (Nat.not_le.mp h)).1
    omega

theorem storeAccumulated_accumulate_bitcnt (v : BitVec 5) (s t : State) :
    (storeAccumulated (accumulate v s) t).bitcnt.toNat = (accumulate v s).bitcnt :=
  (BitVec.toNat_ofNat ..).trans (Nat.mod_eq_of_lt (accumulate_bitcnt_lt v s))

end Character

/-- Settles O12: such a byte has no value, and B32Fail(1) runs before the buffer is looked at. -/
theorem invalidCharFailsClosed : Obligations.InvalidCharFailsClosed := by
  intro c s hm hpad ⟨hupper, hlower, hdigit⟩
  rw [exec_b32Char_active c hm, b32Accept_invalid s hpad (b32Value_fold_eq_none hupper hlower hdigit)]
  rfl

/-- Settles O13: with fewer than eight bits the symbol is only shifted in; else the byte emitted is appended. -/
theorem charShiftsInAndEmits : Obligations.CharShiftsInAndEmits := by
  intro c v s hfit hm hpad hv hroom
  rw [exec_b32Char_active c hm, b32Accept_symbol s hpad hv]
  by_cases h : 8 ≤ s.bitcnt.toNat + 5
  · rw [b32Shift_of_emits v h fun hfull => hroom ⟨h, hfull⟩]
    refine ⟨_, rfl, (appendKey_key_length _ s).trans hfit, rfl, accumulate_acc v s,
      fun hlt => absurd h (Nat.not_le.mpr hlt), fun _ => ⟨?_, rfl, fun j hj => appendKey_getD _ s (hfit ▸ hj)⟩⟩
    rw [storeAccumulated_accumulate_bitcnt, (accumulate_emits v h).1]
  · have hlt := Nat.not_le.mp h
    rw [b32Shift_of_holds v hlt]
    refine ⟨_, rfl, hfit, rfl, accumulate_acc v s, fun _ => ⟨?_, rfl, rfl⟩, fun h8 => absurd h8 h⟩
    rw [storeAccumulated_accumulate_bitcnt, (accumulate_holds v hlt).1]

/-- Settles O14: a symbol that completes a byte finds the buffer full, and B32Fail(4) runs. -/
theorem charOverflowFailsClosed : Obligations.CharOverflowFailsClosed := by
  intro c s hm hsym h hfull
  obtain ⟨hpad, v, hv⟩ := isSymbol_iff.mp hsym
  rw [exec_b32Char_active c hm, b32Accept_symbol s hpad hv, b32Shift_of_full v h hfull]
  rfl

/-- Settles O10: outside an ACTIVE session the byte is not looked at, and an error is raised. -/
theorem charOutsideActiveSession : Obligations.CharOutsideActiveSession :=
  fun c _ => ⟨exec_b32Char_idle c, exec_b32Char_failed c⟩

/-- Settles O11: the padding byte ends the command before anything is shifted in. -/
theorem paddingIsDropped : Obligations.PaddingIsDropped :=
  fun _ => exec_b32Char_active padByte

/-! ### The ends of a session -/

/-- Settles O9: B32_START does the same in every mode. -/
theorem startOpensSession : Obligations.StartOpensSession :=
  ⟨decode_encode .b32Start, fun _ => rfl⟩

section End

variable {s : State}

theorem exec_b32End_idle (hm : s.b32Mode = .idle) : exec .b32End s = .next (raiseErr .sequence s) := by
  simp only [exec, execB32End, hm]

theorem exec_b32End_failed (hm : s.b32Mode = .failed) :
    exec .b32End s = .next (raiseErr s.b32Fail { s with b32Mode := .idle }) := by
  simp only [exec, execB32End, hm]

theorem exec_b32End_active (hm : s.b32Mode = .active) :
    exec .b32End s = .next (finish { s with b32Mode := .idle, keyValid := true }) := by
  simp only [exec, execB32End, hm]

end End

/-- Settles O15: one equation a mode. -/
theorem endClosesSession : Obligations.EndClosesSession :=
  ⟨decode_encode .b32End, fun _ => ⟨exec_b32End_idle, exec_b32End_failed, exec_b32End_active⟩⟩

/-! ### The raw key -/

section RawKey

variable {s : State}

theorem exec_keyClear_idle (hm : s.b32Mode = .idle) :
    exec .keyClear s = .next (finish (clearDigest { zeroizeKey s with keyValid := true })) :=
  congrArg Host.Outcome.next (if_pos hm)

theorem exec_keyClear_session (hm : s.b32Mode ≠ .idle) : exec .keyClear s = .next (raiseErr .sequence s) :=
  congrArg Host.Outcome.next (if_neg hm)

theorem exec_keyByte_session (b : Byte) (hm : s.b32Mode ≠ .idle) :
    exec (.keyByte b) s = .next (raiseErr .sequence s) :=
  congrArg Host.Outcome.next (if_neg hm)

theorem exec_keyByte_full (b : Byte) (hm : s.b32Mode = .idle) (hfull : s.keyLen = s.params.keyMaxBytes) :
    exec (.keyByte b) s = .next (raiseErr .keyOverflow (clearDigest { zeroizeKey s with keyValid := false })) :=
  congrArg Host.Outcome.next ((if_pos hm).trans (if_pos (beq_iff_eq.mpr hfull)))

theorem exec_keyByte_room (b : Byte) (hm : s.b32Mode = .idle) (hroom : s.keyLen ≠ s.params.keyMaxBytes) :
    exec (.keyByte b) s = .next (finish (appendKey b (clearDigest s))) :=
  congrArg Host.Outcome.next ((if_pos hm).trans (if_neg (mt beq_iff_eq.mp hroom)))

end RawKey

/-- The OP and RSVD of KEY_BYTE in front of its operand (30_encoding.md R85). -/
theorem encode_keyByte (b : Byte) : encode (.keyByte b) = 0x190000#24 ++ b :=
  congrArg (· ++ b) (by decide : (0x19#8 ++ 0#16 : BitVec 24) = 0x190000#24)

/-- Settles O16: KEY_CLEAR looks only at whether a session is open. -/
theorem keyClearStartsEmptyKey : Obligations.KeyClearStartsEmptyKey :=
  ⟨decode_encode .keyClear, fun _ => ⟨exec_keyClear_idle, exec_keyClear_session⟩⟩

/-- Settles O17: every operand decodes, and the three cases exclude one another. -/
theorem keyByteAppendsByte : Obligations.KeyByteAppendsByte := by
  refine ⟨fun b => encode_keyByte b ▸ decode_encode (.keyByte b), fun b s => ⟨exec_keyByte_session b, exec_keyByte_full b, ?_⟩⟩
  intro hfit hm hroom
  exact ⟨_, exec_keyByte_room b hm hroom, (appendKey_key_length b _).trans hfit, rfl,
    fun j hj => appendKey_getD b (clearDigest s) (hfit ▸ hj)⟩

end Sys2Proof.Machine
end

section
/-! PROOF. A whole base32 session (41_base32_decoder.md R104): what ACC, BITCNT and the key hold once some symbols are
shifted in, kept by every further character, and read off at the end. -/

namespace Sys2Proof.Machine

/-! ### Commands back to back -/

theorem runCommands_cons {i : Instr} {s t : State} (is : List Instr) (h : exec i s = .next t) :
    runCommands (i :: is) s = runCommands is t := by
  simp only [runCommands, h]

theorem runCommands_append {is : List Instr} {s t : State} (js : List Instr) (h : runCommands is s = .next t) :
    runCommands (is ++ js) s = runCommands js t := by
  induction is generalizing s with
  | nil => cases h; rfl
  | cons i is ih =>
    obtain ⟨u, hu⟩ := exec_answers_next i s
    rw [runCommands_cons is hu] at h
    rw [List.cons_append, runCommands_cons _ hu, ih h]

/-! ### The bits of a string -/

theorem symbolValues_append (cs ds : List Byte) : symbolValues (cs ++ ds) = symbolValues cs ++ symbolValues ds :=
  List.filterMap_append ..

theorem symbolValues_pad : symbolValues [padByte] = [] := rfl

theorem symbolValues_symbol {c : Byte} {v : BitVec 5} (hpad : c ≠ padByte) (hv : b32Value (fold c) = some v) :
    symbolValues [c] = [v.toNat] := by
  simp [symbolValues, hpad, hv]

theorem bigValue_append_singleton (vs : List Nat) (v : Nat) : bigValue (vs ++ [v]) = bigValue vs * 32 + v :=
  List.foldl_append ..

/-- Byte `k` of the bits of `vs`, most significant first (41_base32_decoder.md R104). -/
def sessionByte (vs : List Nat) (k : Nat) : Byte :=
  BitVec.ofNat 8 (bigValue vs / 2 ^ (5 * vs.length - 8 * (k + 1)))

/-- One more symbol changes no byte that is already whole. -/
theorem sessionByte_append_of_lt {vs : List Nat} {v k : Nat} (hv : v < 32) (hk : k < 5 * vs.length / 8) :
    sessionByte (vs ++ [v]) k = sessionByte vs k := by
  have hlow : (bigValue vs * 32 + v) / 2 ^ 5 = bigValue vs := by omega
  have hexp : 5 * (vs ++ [v]).length - 8 * (k + 1) = 5 + (5 * vs.length - 8 * (k + 1)) := by
    rw [List.length_append, List.length_singleton]
    omega
  rw [sessionByte, hexp, bigValue_append_singleton, Nat.pow_add, ← Nat.div_div_eq_div_mul, hlow, sessionByte]

/-- Reducing mod `2 ^ w` first loses no bit of a byte that lies below bit `w` (00_scope.md R10). -/
theorem byte_mod_two_pow_div (x : Nat) {w r : Nat} (h : r + 8 ≤ w) :
    (BitVec.ofNat 8 (x % 2 ^ w / 2 ^ r) : Byte) = BitVec.ofNat 8 (x / 2 ^ r) := by
  obtain ⟨d, rfl⟩ := Nat.exists_eq_add_of_le h
  apply BitVec.eq_of_toNat_eq
  rw [BitVec.toNat_ofNat, BitVec.toNat_ofNat, Nat.add_assoc, Nat.pow_add, Nat.mod_mul_right_div_self, Nat.pow_add,
    Nat.mod_mul_right_mod]

/-! ### A session in progress -/

/-- In `s` a session is ACTIVE and the values `vs` have been shifted in since it was opened: their whole bytes are in the
key buffer, and the bits left over are counted by BITCNT (41_base32_decoder.md R97, R104). -/
structure SessionHolds (vs : List Nat) (s : State) : Prop where
  mode    : s.b32Mode = .active
  acc     : s.acc = bigValue vs % 2 ^ s.params.accWidth
  bitcnt  : s.bitcnt.toNat = 5 * vs.length % 8
  keyLen  : s.keyLen = 5 * vs.length / 8
  keyFits : KeyFits s
  key     : ∀ j, j < s.params.keyMaxBytes →
    s.key.getD j 0 = if j < 5 * vs.length / 8 then sessionByte vs j else 0

/-- B32_START opens a session that holds nothing, in every state. -/
theorem exec_b32Start_sessionHolds (s : State) :
    ∃ t, exec .b32Start s = .next t ∧ t.params = s.params ∧ SessionHolds [] t :=
  ⟨_, rfl, rfl, {
    mode := rfl
    acc := (Nat.zero_mod _).symm
    bitcnt := rfl
    keyLen := rfl
    keyFits := List.length_replicate
    key := fun j hj => (List.getD_replicate _ hj).trans (if_neg (Nat.not_lt_zero j)).symm }⟩

namespace SessionHolds

variable {vs : List Nat} {s : State}

theorem finish (h : SessionHolds vs s) : SessionHolds vs (finish s) := { h with }

/-- A symbol is shifted in, and a byte it completes is the next one of the string. -/
theorem symbol (h : SessionHolds vs s) (hw : 12 ≤ s.params.accWidth) {c : Byte} {v : BitVec 5} (hpad : c ≠ padByte)
    (hv : b32Value (fold c) = some v) (hroom : 5 * (vs ++ [v.toNat]).length / 8 ≤ s.params.keyMaxBytes) :
    ∃ t, exec (.b32Char c) s = .next t ∧ SessionHolds (vs ++ [v.toNat]) t := by
  have hlen : (vs ++ [v.toNat]).length = vs.length + 1 := List.length_append
  have hbit := h.bitcnt
  have hkeyLen := h.keyLen
  have hnotFull : ¬ (8 ≤ s.bitcnt.toNat + 5 ∧ s.keyLen = s.params.keyMaxBytes) := by omega
  obtain ⟨t, hx, hfit, hframe, hacc, hholds, hemits⟩ :=
    charShiftsInAndEmits c v s h.keyFits h.mode hpad hv hnotFull
  have hparams : t.params = s.params := exec_keeps_params hx
  have hmode : t.b32Mode = .active := (congrArg State.b32Mode hframe).trans h.mode
  have hacc' : t.acc = bigValue (vs ++ [v.toNat]) % 2 ^ s.params.accWidth := by
    rw [hacc, h.acc, bigValue_append_singleton, Nat.add_mod, Nat.mod_mul_mod, ← Nat.add_mod]
  have hold {j : Nat} (hj : j < 5 * vs.length / 8) : sessionByte (vs ++ [v.toNat]) j = sessionByte vs j :=
    sessionByte_append_of_lt v.isLt hj
  by_cases h8 : 8 ≤ s.bitcnt.toNat + 5
  · obtain ⟨hbit', hkeyLen', hkey'⟩ := hemits h8
    have hnew : BitVec.ofNat 8 (t.acc / 2 ^ (s.bitcnt.toNat + 5 - 8)) = sessionByte (vs ++ [v.toNat]) s.keyLen := by
      have hexp : 5 * (vs ++ [v.toNat]).length - 8 * (s.keyLen + 1) = s.bitcnt.toNat + 5 - 8 := by omega
      rw [hacc', byte_mod_two_pow_div _ (by omega), sessionByte, hexp]
    refine ⟨t, hx, hmode, hparams ▸ hacc', by omega, by omega, hfit, fun j hj => ?_⟩
    rw [hparams] at hj
    rw [hkey' j hj, h.key j hj]
    rcases Nat.lt_trichotomy j s.keyLen with hlt | rfl | hgt
    · rw [if_neg hlt.ne, if_pos (by omega), if_pos (by omega), hold (by omega)]
    · rw [if_pos rfl, if_pos (by omega), hnew]
    · rw [if_neg hgt.ne', if_neg (by omega), if_neg (by omega)]
  · obtain ⟨hbit', hkey', hkeyLen'⟩ := hholds (Nat.not_le.mp h8)
    have hsame : 5 * (vs ++ [v.toNat]).length / 8 = 5 * vs.length / 8 := by omega
    refine ⟨t, hx, hmode, hparams ▸ hacc', by omega, by omega, hfit, fun j hj => ?_⟩
    rw [hkey', h.key j (hparams ▸ hj), hsame]
    split_ifs with hlt
    · exact (hold hlt).symm
    · rfl

/-- A symbol or a padding byte adds the values it has, one or none (41_base32_decoder.md R96). -/
theorem char (h : SessionHolds vs s) (hw : 12 ≤ s.params.accWidth) {c : Byte} (hc : c ≠ padByte → isSymbol c = true)
    (hroom : 5 * (vs ++ symbolValues [c]).length / 8 ≤ s.params.keyMaxBytes) :
    ∃ t, exec (.b32Char c) s = .next t ∧ SessionHolds (vs ++ symbolValues [c]) t := by
  by_cases hpad : c = padByte
  · subst hpad
    refine ⟨_, exec_b32Char_active padByte h.mode, ?_⟩
    rw [b32Accept_pad, symbolValues_pad, List.append_nil]
    exact h.finish
  · obtain ⟨-, v, hv⟩ := isSymbol_iff.mp (hc hpad)
    rw [symbolValues_symbol hpad hv] at hroom ⊢
    exact h.symbol hw hpad hv hroom

/-- So does a string of them, whatever the session held before. -/
theorem chars {cs : List Byte} (h : SessionHolds vs s) (hw : 12 ≤ s.params.accWidth)
    (hcs : ∀ c ∈ cs, c ≠ padByte → isSymbol c = true)
    (hroom : 5 * (vs ++ symbolValues cs).length / 8 ≤ s.params.keyMaxBytes) :
    ∃ t, runCommands (cs.map .b32Char) s = .next t ∧ t.params = s.params ∧ SessionHolds (vs ++ symbolValues cs) t := by
  induction cs generalizing vs s with
  | nil => exact ⟨s, rfl, rfl, (List.append_nil vs).symm ▸ h⟩
  | cons c cs ih =>
    have hsplit : vs ++ symbolValues (c :: cs) = vs ++ symbolValues [c] ++ symbolValues cs := by
      rw [List.append_assoc, ← symbolValues_append, List.singleton_append]
    rw [hsplit] at hroom ⊢
    have hroom₁ : 5 * (vs ++ symbolValues [c]).length / 8 ≤ s.params.keyMaxBytes := by
      rw [List.length_append] at hroom
      omega
    obtain ⟨u, hu, hheld⟩ := h.char hw (hcs c List.mem_cons_self) hroom₁
    have hparams : u.params = s.params := exec_keeps_params hu
    rw [← hparams] at hw hroom
    obtain ⟨t, ht, hparams', hdone⟩ := ih hheld hw (fun d hd => hcs d (List.mem_cons_of_mem c hd)) hroom
    exact ⟨t, (runCommands_cons _ hu).trans ht, hparams'.trans hparams, hdone⟩

/-- The bits not yet emitted are the last ones of the string (10_state.md R49). -/
theorem resid_toNat (h : SessionHolds vs s) (hw : 12 ≤ s.params.accWidth) :
    (resid s).toNat = bigValue vs % 2 ^ s.bitcnt.toNat := by
  have hbit : s.bitcnt.toNat ≤ 7 := by
    have := h.bitcnt
    omega
  rw [Machine.resid_toNat hbit, h.acc, Nat.mod_mod_of_dvd _ (Nat.pow_dvd_pow 2 (by omega))]

end SessionHolds

/-- Settles O18: the session opened holds nothing, each character adds its bits, and B32_END keeps what is held. -/
theorem sessionClosedForm : Obligations.SessionClosedForm := by
  intro cs s hw hcs hroom
  obtain ⟨s₀, hstart, hparams₀, hempty⟩ := exec_b32Start_sessionHolds s
  rw [← hparams₀] at hw hroom
  obtain ⟨u, hchars, hparams, h⟩ := hempty.chars hw hcs hroom
  rw [List.nil_append] at h
  rw [← hparams] at hw hroom
  have hrun : runCommands (b32StrCommands cs) s = runCommands [.b32End] u :=
    (runCommands_cons _ hstart).trans (runCommands_append _ hchars)
  refine ⟨_, hrun.trans (runCommands_cons [] (exec_b32End_active h.mode)), h.keyLen, h.keyFits, fun k hk => ?_,
    fun k hk => ?_, h.bitcnt, h.resid_toNat hw, rfl, rfl, rfl⟩
  · have hwhole : k < 5 * (symbolValues cs).length / 8 := h.keyLen ▸ hk
    exact (h.key k (Nat.lt_of_lt_of_le hwhole hroom)).trans (if_pos hwhole)
  · have hpast : ¬ k < 5 * (symbolValues cs).length / 8 := Nat.not_lt.mpr (h.keyLen ▸ hk)
    by_cases hin : k < u.params.keyMaxBytes
    · exact (h.key k hin).trans (if_neg hpast)
    · exact List.getD_eq_default _ _ (h.keyFits ▸ Nat.not_lt.mp hin)

end Sys2Proof.Machine
end

section
/-! PROOF. Padding, compression and SHA-1 (42_hmac_sha1_engine.md R106-R108): the numbers that big-endian bytes spell,
the schedule word by word, the rounds, and the fold over the blocks. -/

namespace Sys2Proof.Machine

/-! ### Big-endian bytes -/

theorem extractLsb'_eq_ofNat_div {w : Nat} (x : BitVec w) (lo n : Nat) :
    x.extractLsb' lo n = BitVec.ofNat n (x.toNat / 2 ^ lo) := by
  rw [BitVec.extractLsb', Nat.shiftRight_eq_div_pow]

/-- Byte `i` of a word (00_scope.md R14). -/
theorem be32_getD (x : Word) (i : Fin 4) : (be32 x).getD i 0 = BitVec.ofNat 8 (x.toNat / 2 ^ (24 - 8 * i.val)) := by
  simp only [be32, extractLsb'_eq_ofNat_div]
  fin_cases i <;> rfl

/-- The bytes of a 64-bit number, each by its weight (00_scope.md R14). -/
theorem be64_eq_map_range (x : DWord) :
    be64 x = (List.range 8).map fun i => BitVec.ofNat 8 (x.toNat / 2 ^ (56 - 8 * i)) := by
  simp only [be64, extractLsb'_eq_ofNat_div]
  rfl

/-- The bytes of a 64-bit number spell it in base 256. -/
theorem be64_foldl (x : DWord) : (be64 x).foldl (fun acc b => acc * 256 + b.toNat) 0 = x.toNat := by
  have := x.isLt
  simp only [be64, extractLsb'_eq_ofNat_div, List.foldl_cons, List.foldl_nil, BitVec.toNat_ofNat]
  omega

/-! ### Padding -/

/-- The padded message fills the blocks that the rule counts. -/
theorem sha1Pad_length_eq_blocks (m : List Byte) : (sha1Pad m).length = 64 * ((m.length + 8) / 64 + 1) := by
  rw [sha1Pad_length]
  omega

/-- Settles O25: the length field is the bit length below 2^64, and the padded length is a number of blocks. -/
theorem sha1PaddingShape : Obligations.Sha1PaddingShape := by
  intro m hm
  have hbits : (BitVec.ofNat 64 (8 * m.length)).toNat = 8 * m.length := by
    rw [BitVec.toNat_ofNat]
    omega
  refine ⟨⟨(119 - m.length % 64) % 64, by omega, by omega, be64 (BitVec.ofNat 64 (8 * m.length)), rfl, rfl,
    (be64_foldl _).trans hbits⟩, ?_, ?_⟩
  · rw [sha1Pad_length_eq_blocks, Nat.mul_mod_right]
  · rw [sha1Pad_length_eq_blocks, Nat.mul_div_cancel_left _ (by decide)]

/-! ### The schedule -/

theorem beWords_length : ∀ bs : List Byte, (beWords bs).length = bs.length / 4
  | b0 :: b1 :: b2 :: b3 :: rest => by
    rw [beWords, List.length_cons, beWords_length rest]
    simp only [List.length_cons]
    omega
  | [] | [_] | [_, _] | [_, _, _] => by simp [beWords]

/-- Word `t` is made of the bytes from `4t` on. -/
theorem beWords_getD {bs : List Byte} {t : Nat} (h : 4 * t + 3 < bs.length) :
    (beWords bs).getD t 0 =
      beWord (bs.getD (4 * t) 0) (bs.getD (4 * t + 1) 0) (bs.getD (4 * t + 2) 0) (bs.getD (4 * t + 3) 0) := by
  induction t generalizing bs with
  | zero =>
    match bs, h with
    | b0 :: b1 :: b2 :: b3 :: rest, _ => rfl
  | succ t ih =>
    match bs, h with
    | b0 :: b1 :: b2 :: b3 :: rest, h => exact ih (Nat.lt_of_add_lt_add_right (n := 4) h)

theorem extendSchedule_add (m n : Nat) (ws : List Word) :
    extendSchedule (m + n) ws = extendSchedule n (extendSchedule m ws) := by
  induction m generalizing ws with
  | zero => rw [Nat.zero_add, extendSchedule]
  | succ m ih => rw [Nat.succ_add, extendSchedule, ih, extendSchedule]

/-- New words stand in front of the old ones. -/
theorem suffix_extendSchedule (n : Nat) (ws : List Word) : ws <:+ extendSchedule n ws := by
  induction n generalizing ws with
  | zero => exact List.suffix_rfl
  | succ n ih => exact (List.suffix_cons _ ws).trans (ih _)

/-- W[t] of a block; 0 from 80 on, where the rule has none. -/
def scheduleWord (b : List Byte) (t : Nat) : Word := (schedule b).getD t 0

section Schedule

variable {b : List Byte} (hb : b.length = 64)
include hb

theorem beWords_block_length : (beWords b).length = 16 := by
  rw [beWords_length, hb]

theorem extendSchedule_block_length (n : Nat) : (extendSchedule n (beWords b).reverse).length = n + 16 := by
  rw [extendSchedule_length, List.length_reverse, beWords_block_length hb]

/-- After `n` words beyond the first 16, W[0..n+15] stand and stay. -/
theorem scheduleWord_eq_getD_reverse {n t : Nat} (hn : n ≤ 64) (ht : t < n + 16) :
    scheduleWord b t = (extendSchedule n (beWords b).reverse).reverse.getD t 0 := by
  obtain ⟨later, hlater⟩ := suffix_extendSchedule (64 - n) (extendSchedule n (beWords b).reverse)
  rw [← extendSchedule_add, Nat.add_sub_cancel' hn] at hlater
  rw [scheduleWord, schedule, ← hlater, List.reverse_append, List.getD_append]
  rwa [List.length_reverse, extendSchedule_block_length hb]

/-- The word `i` places behind the newest, W[n+15], is W[n + 15 - i]. -/
theorem extendSchedule_getD {n i : Nat} (hn : n ≤ 64) (hi : i < n + 16) :
    (extendSchedule n (beWords b).reverse).getD i 0 = scheduleWord b (n + 15 - i) := by
  have hlen := extendSchedule_block_length hb n
  rw [scheduleWord_eq_getD_reverse hb hn (by omega), List.getD_reverse _ (by omega), hlen]
  congr 1
  omega

/-- W[0..15] are the words of the block (42_hmac_sha1_engine.md R107). -/
theorem scheduleWord_of_lt {t : Nat} (ht : t < 16) : scheduleWord b t = (beWords b).getD t 0 := by
  rw [scheduleWord_eq_getD_reverse hb (n := 0) (by decide) (by omega), extendSchedule, List.reverse_reverse]

/-- The recurrence of W[16..79] (42_hmac_sha1_engine.md R107). -/
theorem scheduleWord_of_ge {t : Nat} (h16 : 16 ≤ t) (h80 : t < 80) :
    scheduleWord b t = (scheduleWord b (t - 3) ^^^ scheduleWord b (t - 8) ^^^ scheduleWord b (t - 14) ^^^
      scheduleWord b (t - 16)).rotateLeft 1 := by
  obtain ⟨n, rfl⟩ := Nat.exists_eq_add_of_le' h16
  have hnew := extendSchedule_getD hb (n := n + 1) (i := 0) (by omega) (by omega)
  have hold (i : Nat) (hi : i < n + 16) := extendSchedule_getD hb (n := n) (i := i) (by omega) hi
  rw [extendSchedule_add, extendSchedule, extendSchedule, List.getD_cons_zero, hold 2 (by omega), hold 7 (by omega),
    hold 13 (by omega), hold 15 (by omega)] at hnew
  exact hnew.symm

theorem schedule_length : (schedule b).length = 80 := by
  rw [schedule, List.length_reverse, extendSchedule_block_length hb]

end Schedule

/-! ### The rounds -/

theorem sha1Rounds_append (t : Nat) (ws us : List Word) (v : Chain) :
    sha1Rounds t (ws ++ us) v = sha1Rounds (t + ws.length) us (sha1Rounds t ws v) := by
  induction ws generalizing t v with
  | nil => rfl
  | cons w ws ih =>
    rw [List.cons_append, sha1Rounds, ih, sha1Rounds, List.length_cons, Nat.add_right_comm, Nat.add_assoc]

/-- The working words after the first `t` rounds of a block. -/
def wordsAfter (h : Chain) (b : List Byte) (t : Nat) : Chain := sha1Rounds 0 ((schedule b).take t) h

/-- One more word of the schedule is one more round. -/
theorem wordsAfter_succ (h : Chain) {b : List Byte} {t : Nat} (ht : t < (schedule b).length) :
    wordsAfter h b (t + 1) = sha1Round t (scheduleWord b t) (wordsAfter h b t) := by
  rw [wordsAfter, List.take_succ_eq_append_getElem ht, sha1Rounds_append, List.length_take_of_le (Nat.le_of_lt ht),
    Nat.zero_add, scheduleWord, List.getD_eq_getElem _ _ ht]
  rfl

theorem sha1Compress_eq_wordsAfter (h : Chain) {b : List Byte} (hlen : (schedule b).length = 80) :
    sha1Compress h b = {
      h0 := h.h0 + (wordsAfter h b 80).h0, h1 := h.h1 + (wordsAfter h b 80).h1, h2 := h.h2 + (wordsAfter h b 80).h2,
      h3 := h.h3 + (wordsAfter h b 80).h3, h4 := h.h4 + (wordsAfter h b 80).h4 } := by
  rw [wordsAfter, List.take_of_length_le (Nat.le_of_eq hlen)]
  rfl

section RoundConstants

variable {t : Nat} (b c d : Word)

theorem roundF_roundK_first (h : t ≤ 19) : roundF t b c d = b &&& c ||| ~~~b &&& d ∧ roundK t = 0x5A827999 :=
  ⟨if_pos h, if_pos h⟩

theorem roundF_roundK_second (h20 : 20 ≤ t) (h39 : t ≤ 39) :
    roundF t b c d = b ^^^ c ^^^ d ∧ roundK t = 0x6ED9EBA1 := by
  have h19 : ¬ t ≤ 19 := by omega
  simp only [roundF, roundK, if_neg h19, if_pos h39, and_self]

theorem roundF_roundK_third (h40 : 40 ≤ t) (h59 : t ≤ 59) :
    roundF t b c d = b &&& c ||| b &&& d ||| c &&& d ∧ roundK t = 0x8F1BBCDC := by
  have h19 : ¬ t ≤ 19 := by omega
  have h39 : ¬ t ≤ 39 := by omega
  simp only [roundF, roundK, if_neg h19, if_neg h39, if_pos h59, and_self]

theorem roundF_roundK_fourth (h60 : 60 ≤ t) : roundF t b c d = b ^^^ c ^^^ d ∧ roundK t = 0xCA62C1D6 := by
  have h19 : ¬ t ≤ 19 := by omega
  have h39 : ¬ t ≤ 39 := by omega
  have h59 : ¬ t ≤ 59 := by omega
  simp only [roundF, roundK, if_neg h19, if_neg h39, if_neg h59, and_self]

end RoundConstants

/-- Settles O26: the words of the schedule, and the working words after each round. -/
theorem compressFollowsRule : Obligations.CompressFollowsRule := by
  intro h b hb
  have hlen : (schedule b).length = 80 := schedule_length hb
  refine ⟨scheduleWord b, wordsAfter h b, fun t ht => ?_, fun _ => scheduleWord_of_ge hb, rfl, fun t ht => ?_,
    sha1Compress_eq_wordsAfter h hlen⟩
  · rw [scheduleWord_of_lt hb ht, beWords_getD (by omega), beWord_toNat]
  · exact ⟨roundF t _ _ _, roundK t, roundF_roundK_first _ _ _, roundF_roundK_second _ _ _, roundF_roundK_third _ _ _,
      roundF_roundK_fourth _ _ _, wordsAfter_succ h (hlen ▸ ht)⟩

/-! ### The blocks and the digest -/

/-- The blocks in order: one more block is the 64 bytes behind the first `k`. -/
theorem blocks64_succ (k : Nat) (bs : List Byte) :
    blocks64 (k + 1) bs = blocks64 k bs ++ [(bs.drop (64 * k)).take 64] := by
  induction k generalizing bs with
  | zero => rfl
  | succ k ih =>
    rw [blocks64, ih, blocks64, List.drop_drop, List.cons_append, Nat.mul_succ, Nat.add_comm]

/-- The digest is the words one after another. -/
theorem byteAt_chainBytes (c : Chain) (q : Fin 5) (i : Fin 4) :
    byteAt (chainBytes c) (4 * q.val + i.val) = (be32 (match q with
      | 0 => c.h0
      | 1 => c.h1
      | 2 => c.h2
      | 3 => c.h3
      | 4 => c.h4)).getD i.val 0 := by
  match q with
  | 0 | 1 | 2 | 3 | 4 => fin_cases i <;> rfl

/-- The chaining words after the first `j` blocks of a message. -/
def chainAfter (m : List Byte) (j : Nat) : Chain := (blocks64 j (sha1Pad m)).foldl sha1Compress sha1Init

theorem chainAfter_succ (m : List Byte) (j : Nat) :
    chainAfter m (j + 1) = sha1Compress (chainAfter m j) (((sha1Pad m).drop (64 * j)).take 64) := by
  rw [chainAfter, blocks64_succ, List.foldl_concat, chainAfter]

theorem sha1_eq_chainBytes (m : List Byte) : sha1 m = chainBytes (chainAfter m ((sha1Pad m).length / 64)) := by
  rw [sha1, chainAfter]

/-- Settles O27: the fold over the blocks, and the digest word by word. -/
theorem sha1FoldsBlocks : Obligations.Sha1FoldsBlocks := by
  refine fun m => ⟨chainAfter m, rfl, fun j _ => chainAfter_succ m j, fun q i => ?_⟩
  rw [sha1_eq_chainBytes, ← be32_getD]
  exact byteAt_chainBytes _ q i

end Sys2Proof.Machine
end

section
/-! PROOF. HMAC-SHA1 and the command HMAC (42_hmac_sha1_engine.md R109-R113). -/

namespace Sys2Proof.Machine

/-! ### The prepared key -/

theorem hmacK0_length (k : List Byte) : (hmacK0 k).length = 64 := by
  rw [hmacK0, List.length_append, List.length_replicate, Nat.add_sub_cancel' (hmacKey_length_le k)]

theorem hmacK0_of_le {k : List Byte} (h : k.length ≤ 64) : hmacK0 k = k ++ List.replicate (64 - k.length) 0 := by
  have hkey : hmacKey k = k := if_neg (Nat.not_lt.mpr h)
  rw [hmacK0, hkey]

theorem hmacK0_of_gt {k : List Byte} (h : 64 < k.length) : hmacK0 k = (sha1 k).toList ++ List.replicate 44 0 := by
  have hkey : hmacKey k = (sha1 k).toList := if_pos h
  rw [hmacK0, hkey, Vector.length_toList]

/-- Settles O28: the prepared key is `hmacK0`, short or long. -/
theorem hmacConstruction : Obligations.HmacConstruction :=
  fun k _ => ⟨hmacK0 k, hmacK0_length k, hmacK0_of_le, hmacK0_of_gt, rfl⟩

/-- HMAC sees a key only through its prepared form (42_hmac_sha1_engine.md R110, R111). -/
theorem hmacSha1_eq_of_hmacK0_eq {k k' : List Byte} (m : List Byte) (h : hmacK0 k = hmacK0 k') :
    hmacSha1 k m = hmacSha1 k' m := by
  simp only [hmacSha1, hmacOpad, hmacIpad, h]

/-- Settles O29: zeros at the end of the key are zeros of the padding. -/
theorem trailingZerosInvisible : Obligations.TrailingZerosInvisible := by
  intro k m n h
  refine hmacSha1_eq_of_hmacK0_eq m ?_
  rw [hmacK0_of_le (by simpa using h), hmacK0_of_le (by omega), List.append_assoc, List.replicate_append_replicate,
    List.length_append, List.length_replicate]
  congr 2
  omega

/-! ### The command -/

section Command

variable {s : State}

theorem exec_hmac_noKey (hk : s.keyValid = false) : exec .hmac s = .next (raiseErr .noKey s) :=
  congrArg Host.Outcome.next (if_pos hk)

theorem exec_hmac_noCounter (hk : s.keyValid = true) (hc : s.counterValid = false) :
    exec .hmac s = .next (raiseErr .sequence s) :=
  congrArg Host.Outcome.next ((if_neg (by simp [hk])).trans (if_pos hc))

theorem exec_hmac_computes (hk : s.keyValid = true) (hc : s.counterValid = true) :
    exec .hmac s = .next (finish (computeDigest s)) :=
  congrArg Host.Outcome.next ((if_neg (by simp [hk])).trans (if_neg (by simp [hc])))

end Command

/-- Settles O30: one equation a case, with the counter's bytes by their weights. -/
theorem hmacComputesDigest : Obligations.HmacComputesDigest := by
  refine ⟨decode_encode .hmac, fun s => ⟨exec_hmac_noKey, exec_hmac_noCounter, fun hk hc => ?_⟩⟩
  rw [exec_hmac_computes hk hc, ← be64_eq_map_range]
  rfl

end Sys2Proof.Machine
end

section
/-! PROOF. The totp_truncator (43_totp_truncator.md R114-R118): the offset, the code word and the modulus, then the
decimal digits of the code, then the command TRUNC. -/

namespace Sys2Proof.Machine

/-! ### The offset and the code word -/

/-- Masking a byte with a run of low ones is a remainder. -/
theorem byte_and_ones_toNat (b : Byte) {k : Nat} (hk : k ≤ 8) :
    (b &&& BitVec.ofNat 8 (2 ^ k - 1)).toNat = b.toNat % 2 ^ k := by
  have hpow : 2 ^ k ≤ 2 ^ 8 := Nat.pow_le_pow_right (by decide) hk
  have hones : (2 ^ k - 1) % 2 ^ 8 = 2 ^ k - 1 := Nat.mod_eq_of_lt (by omega)
  rw [BitVec.toNat_and, BitVec.toNat_ofNat, hones, Nat.and_two_pow_sub_one_eq_mod]

theorem truncOffset_toNat (d : Vector Byte 20) : (truncOffset d).toNat = d[19].toNat % 16 := by
  have hmask : (byteAt d 19 &&& 0x0F).toNat = (byteAt d 19).toNat % 16 :=
    byte_and_ones_toNat _ (k := 4) (by decide)
  rw [truncOffset, BitVec.toNat_setWidth, hmask, Nat.mod_mod, byteAt_eq d 19 (by decide)]

theorem truncCode32_toNat (d : Vector Byte 20) (offset : BitVec 4) :
    (truncCode32 d offset).toNat =
      (byteAt d offset.toNat).toNat % 128 * 2 ^ 24 + (byteAt d (offset.toNat + 1)).toNat * 2 ^ 16 +
        (byteAt d (offset.toNat + 2)).toNat * 2 ^ 8 + (byteAt d (offset.toNat + 3)).toNat := by
  have hmask : (byteAt d offset.toNat &&& 0x7F).toNat = (byteAt d offset.toNat).toNat % 128 :=
    byte_and_ones_toNat _ (k := 7) (by decide)
  rw [truncCode32, beWord_toNat, hmask]

/-- The masked top bit makes the code word nonnegative as a signed number (43_totp_truncator.md R115). -/
theorem truncCode32_lt (d : Vector Byte 20) (offset : BitVec 4) : (truncCode32 d offset).toNat < 2 ^ 31 := by
  have h1 := (byteAt d (offset.toNat + 1)).isLt
  have h2 := (byteAt d (offset.toNat + 2)).isLt
  have h3 := (byteAt d (offset.toNat + 3)).isLt
  rw [truncCode32_toNat]
  omega

/-- A remainder of a word is a word, so nothing is cut off, however large the modulus (43_totp_truncator.md R116). -/
theorem truncOtp_toNat (digits : Nat) (c : Word) : (truncOtp digits c).toNat = c.toNat % 10 ^ digits :=
  (BitVec.toNat_ofNat ..).trans (Nat.mod_eq_of_lt ((Nat.mod_le _ _).trans_lt c.isLt))

/-! ### The decimal digits -/

section Digits

variable {digits : Nat} (otp : Word)

theorem codeChar_toNat {i : Nat} (hi : i < digits) :
    (codeChar digits otp i).toNat = 0x30 + otp.toNat / 10 ^ (digits - 1 - i) % 10 := by
  rw [codeChar, if_pos hi, BitVec.toNat_ofNat]
  omega

theorem codeChar_of_le {i : Nat} (hi : digits ≤ i) : codeChar digits otp i = 0 :=
  if_neg (Nat.not_lt.mpr hi)

theorem truncCodeStr_getElem (i : Fin 12) : (truncCodeStr digits otp)[i] = codeChar digits otp i := by
  simp [truncCodeStr]

/-- The first bytes of the string, one a position. -/
theorem truncCodeStr_take {k : Nat} (hk : k ≤ 12) :
    (truncCodeStr digits otp).toList.take k = (List.range k).map (codeChar digits otp) := by
  rw [truncCodeStr, Vector.toList_map, Vector.toList_range, ← List.map_take, List.take_range, Nat.min_eq_left hk]

/-- The number that a string of ASCII digits spells, the most significant first. -/
def decimalValue (bs : List Byte) : Nat := bs.foldl (fun acc b => acc * 10 + (b.toNat - 0x30)) 0

theorem decimalValue_concat (bs : List Byte) (b : Byte) :
    decimalValue (bs ++ [b]) = decimalValue bs * 10 + (b.toNat - 0x30) :=
  List.foldl_concat ..

/-- The first `k` digits spell the number without its last `digits - k` digits. -/
theorem decimalValue_codeChars (hotp : otp.toNat < 10 ^ digits) {k : Nat} (hk : k ≤ digits) :
    decimalValue ((List.range k).map (codeChar digits otp)) = otp.toNat / 10 ^ (digits - k) := by
  induction k with
  | zero => exact (Nat.div_eq_of_lt hotp).symm
  | succ k ih =>
    have hdiv : otp.toNat / 10 ^ (digits - k) = otp.toNat / 10 ^ (digits - 1 - k) / 10 := by
      rw [Nat.div_div_eq_div_mul, ← Nat.pow_succ]
      congr 2
      omega
    calc
      _ = otp.toNat / 10 ^ (digits - 1 - k) / 10 * 10 + otp.toNat / 10 ^ (digits - 1 - k) % 10 := by
        rw [List.range_succ, List.map_append, List.map_singleton, decimalValue_concat, ih (Nat.le_of_succ_le hk), hdiv,
          codeChar_toNat otp hk, Nat.add_sub_cancel_left]
      _ = otp.toNat / 10 ^ (digits - (k + 1)) := by
        rw [Nat.div_add_mod', Nat.sub_sub, Nat.add_comm 1]

theorem decimalValue_truncCodeStr (hotp : otp.toNat < 10 ^ digits) (hdigits : digits ≤ 12) :
    decimalValue ((truncCodeStr digits otp).toList.take digits) = otp.toNat := by
  rw [truncCodeStr_take otp hdigits, decimalValue_codeChars otp hotp le_rfl, Nat.sub_self, Nat.pow_zero, Nat.div_one]

end Digits

/-- Settles O31: each part of the truncation by its own equation, and the digits by their positions. -/
theorem truncationIsExact : Obligations.TruncationIsExact := by
  intro digits d _ hdigits
  have hotp : (truncate digits d).otp.toNat = (truncate digits d).code32.toNat % 10 ^ digits := truncOtp_toNat _ _
  refine ⟨truncOffset_toNat d, ?_, truncCode32_lt d _, hotp, fun i hi => ?_, fun i hi => ?_, ?_⟩
  · rw [← truncOffset_toNat]
    exact truncCode32_toNat d _
  · have hbyte : (truncate digits d).codeStr[i].toNat = _ :=
      (congrArg BitVec.toNat (truncCodeStr_getElem _ i)).trans (codeChar_toNat _ hi)
    omega
  · exact (truncCodeStr_getElem _ i).trans (codeChar_of_le _ hi)
  · refine decimalValue_truncCodeStr _ ?_ (by omega)
    exact hotp ▸ Nat.mod_lt _ (Nat.pow_pos (by decide))

/-! ### The command -/

section Command

variable {s : State}

theorem exec_trunc_noDigest (hd : s.digestValid = false) : exec .trunc s = .next (raiseErr .sequence s) :=
  congrArg Host.Outcome.next (if_pos hd)

theorem exec_trunc_stores (hd : s.digestValid = true) : exec .trunc s = .next (finish (storeTruncation s)) :=
  congrArg Host.Outcome.next (if_neg (by simp [hd]))

end Command

/-- Settles O32: one equation a case, with the parts of `truncate` as the values stored. -/
theorem truncWritesCode : Obligations.TruncWritesCode :=
  ⟨decode_encode .trunc, fun s => ⟨exec_trunc_noDigest, fun hd =>
    ⟨finish (storeTruncation s), exec_trunc_stores hd, rfl, truncOffset_toNat s.digest, rfl, truncOtp_toNat _ _,
      truncCodeStr_getElem _⟩⟩⟩

end Sys2Proof.Machine
end

section
/-! PROOF. The counter_divider (44_counter_divider.md R119-R123): the remaining time, then the commands; and GEN_AT as
DIV, HMAC and TRUNC back to back (45_generate.md introduction). -/

namespace Sys2Proof.Machine

/-! ### The remaining time -/

/-- At most TIME_STEP seconds remain, so they fit REMAINING when TIME_STEP does (44_counter_divider.md R120). -/
theorem remainingOf_toNat {step : Nat} (h : step < 2 ^ 32) (t : DWord) :
    (remainingOf step t).toNat = step - t.toNat % step :=
  (BitVec.toNat_ofNat ..).trans (Nat.mod_eq_of_lt ((Nat.sub_le ..).trans_lt h))

/-- Settles O20: no cut of either value, and `mod` stays below TIME_STEP. -/
theorem counterAndRemainingExact : Obligations.CounterAndRemainingExact := by
  intro step t hpos hmax
  have hrem : (remainingOf step t).toNat = step - t.toNat % step := remainingOf_toNat (by omega) t
  have hmod : t.toNat % step < step := Nat.mod_lt _ hpos
  refine ⟨counterOf_toNat step t, hrem, by omega, by omega, ?_⟩
  rw [hrem, Nat.dvd_iff_mod_eq_zero]
  omega

/-- 00_scope.md R6. -/
theorem timeStep_lt_of_legal {p : Config.Params} (h : p.legal = true) : p.timeStep < 2 ^ 32 := by
  obtain ⟨-, hmax, -⟩ := of_decide_eq_true h
  omega

theorem remainingOf_toNat_of_legal {p : Config.Params} (h : p.legal = true) (t : DWord) :
    (remainingOf p.timeStep t).toNat = p.timeStep - t.toNat % p.timeStep :=
  remainingOf_toNat (timeStep_lt_of_legal h) t

/-! ### The commands -/

theorem exec_div (s : State) : exec .div s = .next (finish (divideTime s)) := rfl

/-- Settles O21: DIV stores the two functions of TIME. -/
theorem divDividesTime : Obligations.DivDividesTime :=
  ⟨decode_encode .div, fun s => ⟨finish (divideTime s), exec_div s, rfl, counterOf_toNat _ s.time,
    fun hp => remainingOf_toNat_of_legal hp s.time⟩⟩

section Sample

variable {s : State} {t : DWord}

theorem exec_timeNow_sample (h : (sampleClock s).1 = some t) :
    exec .timeNow s = .next (finish (loadTime t (sampleClock s).2)) := by
  simp only [exec, execTimeNow, h]

theorem exec_timeNow_noSample (h : (sampleClock s).1 = none) :
    exec .timeNow s = .next (raiseErr .clockError (sampleClock s).2) := by
  simp only [exec, execTimeNow, h]

theorem exec_remainNow_sample (h : (sampleClock s).1 = some t) :
    exec .remainNow s = .next (finish { (sampleClock s).2 with remaining := remainingOf s.params.timeStep t }) := by
  simp only [exec, execRemainNow, h]

theorem exec_remainNow_noSample (h : (sampleClock s).1 = none) :
    exec .remainNow s = .next (raiseErr .clockError (sampleClock s).2) := by
  simp only [exec, execRemainNow, h]

end Sample

/-- Settles O23: one equation for a sample and one for none. -/
theorem timeNowLoadsSample : Obligations.TimeNowLoadsSample :=
  ⟨decode_encode .timeNow, fun _ => ⟨fun _ => exec_timeNow_sample, exec_timeNow_noSample⟩⟩

/-- Settles O24: one equation for a sample and one for none, with the remaining time of the sample. -/
theorem remainNowWritesRemaining : Obligations.RemainNowWritesRemaining :=
  ⟨decode_encode .remainNow, fun _ =>
    ⟨fun t h => ⟨_, exec_remainNow_sample h, rfl, fun hp => remainingOf_toNat_of_legal hp t⟩,
      exec_remainNow_noSample⟩⟩

/-! ### Generation as three commands -/

theorem exec_genAt_generates {s : State} (hk : s.keyValid = true) : exec .genAt s = .next (generate s) :=
  congrArg Host.Outcome.next (if_neg (by simp [hk]))

/-- Settles O35: DIV makes the counter that HMAC asks for, and HMAC the digest that TRUNC asks for;
neither reads the ERRCODE that DIV and HMAC leave. -/
theorem genAtIsDivHmacTrunc : Obligations.GenAtIsDivHmacTrunc := by
  intro s hk
  calc runCommands [.div, .hmac, .trunc] s
    _ = runCommands [.hmac, .trunc] (finish (divideTime s)) := runCommands_cons _ (exec_div s)
    _ = runCommands [.trunc] (finish (computeDigest (finish (divideTime s)))) :=
      runCommands_cons _ (exec_hmac_computes hk rfl)
    _ = .next (finish (storeTruncation (finish (computeDigest (finish (divideTime s)))))) :=
      runCommands_cons [] (exec_trunc_stores rfl)
    _ = .next (generate s) := rfl
    _ = exec .genAt s := (exec_genAt_generates hk).symm

end Sys2Proof.Machine
end

section
/-! PROOF. The generation commands (45_generate.md R124, R125): the values GEN_AT stores, GEN_NOW as GEN_AT at a clock
sample, and GEN_AT issued again. -/

namespace Sys2Proof.Machine

section Command

variable {s : State}

theorem exec_genAt_noKey (hk : s.keyValid = false) : exec .genAt s = .next (raiseErr .noKey s) :=
  congrArg Host.Outcome.next (if_pos hk)

theorem exec_genNow_noKey (hk : s.keyValid = false) : exec .genNow s = .next (raiseErr .noKey s) :=
  congrArg Host.Outcome.next (if_pos hk)

theorem exec_genNow_noSample (hk : s.keyValid = true) (h : (sampleClock s).1 = none) :
    exec .genNow s = .next (raiseErr .clockError (sampleClock s).2) := by
  simp [exec, execGenNow, hk, h]

/-- With a key and a sample, GEN_NOW is GEN_AT with the sample as TIME (45_generate.md R125). -/
theorem exec_genNow_eq_genAt {x : DWord} (hk : s.keyValid = true) (h : (sampleClock s).1 = some x) :
    exec .genNow s = exec .genAt { (sampleClock s).2 with time := x } := by
  simp [exec, execGenNow, execGenAt, hk, h]

end Command

/-- Settles O33: `generate` stores the division of TIME, the digest of that counter and the parts of its truncation. -/
theorem genAtGeneratesFromTime : Obligations.GenAtGeneratesFromTime :=
  ⟨decode_encode .genAt, fun s => ⟨exec_genAt_noKey, fun hk =>
    ⟨generate s, exec_genAt_generates hk, rfl, generate_counter s, fun hp => remainingOf_toNat_of_legal hp s.time,
      rfl, rfl⟩⟩⟩

/-- Settles O34: with a sample it is O33 at the sampled state, whose parameters and key are those before the sample. -/
theorem genNowGeneratesFromSample : Obligations.GenNowGeneratesFromSample := by
  refine ⟨decode_encode .genNow, fun s => ⟨exec_genNow_noKey, exec_genNow_noSample, fun x hk hx => ?_⟩⟩
  obtain ⟨-, hgenAt⟩ := genAtGeneratesFromTime
  obtain ⟨-, hgenerates⟩ := hgenAt { (sampleClock s).2 with time := x }
  rw [exec_genNow_eq_genAt hk hx, ← sampleClock_params s, ← sampleClock_key s, ← sampleClock_keyLen s]
  exact hgenerates ((sampleClock_keyValid s).trans hk)

/-! ### GEN_AT again -/

@[simp] theorem generate_keyValid (s : State) : (generate s).keyValid = s.keyValid := rfl

theorem divideTime_generate (s : State) : divideTime (generate s) = generate s := rfl

theorem computeDigest_generate (s : State) : computeDigest (generate s) = generate s := rfl

theorem storeTruncation_generate (s : State) : storeTruncation (generate s) = generate s := rfl

theorem finish_generate (s : State) : finish (generate s) = generate s := rfl

/-- Generation reads TIME, the key and the parameters, and writes none of them, so each of its parts stores again what is
there. -/
theorem generate_generate (s : State) : generate (generate s) = generate s := by
  rw [generate, divideTime_generate, computeDigest_generate, storeTruncation_generate, finish_generate]

theorem exec_genAt_again {s t : State} (h : exec .genAt s = .next t) : exec .genAt t = .next t := by
  cases hk : s.keyValid with
  | false =>
    obtain rfl := Host.Outcome.next.inj ((exec_genAt_noKey hk).symm.trans h)
    exact exec_genAt_noKey hk
  | true =>
    obtain rfl := Host.Outcome.next.inj ((exec_genAt_generates hk).symm.trans h)
    rw [exec_genAt_generates ((generate_keyValid s).trans hk), generate_generate]

/-- GEN_NOW ends with OK only when it had a key and a sample (45_generate.md R125, 60_exceptions.md R136). -/
theorem exec_genNow_ok {s t : State} (h : exec .genNow s = .next t) (hok : t.errcode = .ok) :
    ∃ x, exec .genAt { (sampleClock s).2 with time := x } = .next t := by
  cases hk : s.keyValid with
  | false =>
    obtain rfl := Host.Outcome.next.inj ((exec_genNow_noKey hk).symm.trans h)
    cases hok
  | true =>
    cases hx : (sampleClock s).1 with
    | none =>
      obtain rfl := Host.Outcome.next.inj ((exec_genNow_noSample hk hx).symm.trans h)
      cases hok
    | some x => exact ⟨x, (exec_genNow_eq_genAt hk hx).symm.trans h⟩

/-- Settles O36: a GEN_NOW that ends with OK is a GEN_AT, so both clauses are GEN_AT twice. -/
theorem generationIsIdempotent : Obligations.GenerationIsIdempotent := by
  refine ⟨fun _ _ => exec_genAt_again, fun s t h hok => ?_⟩
  obtain ⟨x, hgenAt⟩ := exec_genNow_ok h hok
  exact exec_genAt_again hgenAt

end Sys2Proof.Machine
end

section
/-! PROOF. The legal words and the illegal ones, field by field (30_encoding.md R86, R87; 60_exceptions.md R129). -/

namespace Sys2Proof

theorem opcodeOf_mem_assignedOps (i : Instr) : opcodeOf i ∈ assignedOps := by
  cases i <;> simp [opcodeOf, assignedOps]

/-- The opcodes that select a command are the assigned ones (30_encoding.md R85). -/
theorem exists_selectOp_eq_some_iff {op imm : Byte} : (∃ i, selectOp op imm = some i) ↔ op ∈ assignedOps where
  mp := by
    rintro ⟨i, h⟩
    rw [eq_opcodeOf_of_selectOp h]
    exact opcodeOf_mem_assignedOps i
  mpr h := by
    simp only [assignedOps, List.mem_cons, List.not_mem_nil, or_false] at h
    rcases h with rfl | rfl | rfl | rfl | rfl | rfl | rfl | rfl | rfl | rfl | rfl | rfl | rfl | rfl <;> exact ⟨_, rfl⟩

theorem takesOperand_eq_false_iff {op : Byte} : takesOperand op = false ↔ op ≠ 0x11 ∧ op ≠ 0x19 := by
  simp [takesOperand]

/-- The words that decode, field by field (30_encoding.md R87). -/
theorem exists_decode_eq_ok_iff {w : Word} :
    (∃ i, decode w = .ok i) ↔ opField w ∈ assignedOps ∧ rsvdField w = 0 ∧
      (opField w = 0x11 ∨ opField w = 0x19 ∨ immField w = 0) := by
  simp only [decode_eq_ok_iff, exists_and_right, exists_selectOp_eq_some_iff, takesOperand_eq_false_iff]
  tauto

/-- The words that do not decode, by the test they fail (60_exceptions.md R129). -/
theorem exists_decode_eq_error_iff {w : Word} :
    (∃ e, decode w = .error e) ↔ opField w ∉ assignedOps ∨ rsvdField w ≠ 0 ∨
      (opField w ≠ 0x11 ∧ opField w ≠ 0x19 ∧ immField w ≠ 0) := by
  have hnot : (∃ e, decode w = .error e) ↔ ¬ ∃ i, decode w = .ok i := by
    cases decode w <;> simp
  rw [hnot, exists_decode_eq_ok_iff]
  tauto

end Sys2Proof
end

section
/-! PROOF. The exceptions (60_exceptions.md): the error a command can end with (R129), the answer of every step (R134),
and a base32 session that meets an invalid byte (R127). -/

namespace Sys2Proof.Machine

/-! ### The error a command ends with -/

theorem b32Shift_errcode (v : BitVec 5) (s : State) :
    (b32Shift v s).errcode = .ok ∨ (b32Shift v s).errcode = .keyOverflow := by
  simp only [b32Shift]
  split
  · exact .inl rfl
  · split
    · exact .inr rfl
    · exact .inl rfl

/-- A character in an ACTIVE session ends with OK or with an error that fails the session (41_base32_decoder.md R99). -/
theorem b32Accept_errcode (c : Byte) (s : State) :
    (b32Accept c s).errcode = .ok ∨ sessionError (b32Accept c s).errcode := by
  unfold b32Accept
  split
  · exact .inl rfl
  · split
    next => exact .inr (.inl rfl)
    next v _ => exact (b32Shift_errcode v s).imp_right .inr

theorem sessionError.ne_illegalCmd {e : ErrCode} (h : sessionError e) : e ≠ .illegalCmd := by
  rcases h with rfl | rfl <;> decide

/-- A command that is executed never ends with ILLEGAL_CMD: a failed session repeats B32_FAIL, which is an error of a
session (10_state.md R42 item 4), and every other end names its error. -/
theorem exec_errcode_ne_illegalCmd {i : Instr} {s t : State} (h : Invariants s) (hx : exec i s = .next t) :
    t.errcode ≠ .illegalCmd := by
  have hfail (hm : s.b32Mode = .failed) : s.b32Fail ≠ .illegalCmd := by
    obtain ⟨-, -, -, herr⟩ := h.failed_empty hm
    exact herr.ne_illegalCmd
  cases i with
  | nop => cases hx; simp
  | sreset => cases hx; exact nofun
  | b32Start => cases hx; simp
  | b32Char c =>
    cases hx
    split
    next => simp
    next hm => exact hfail hm
    next =>
      rcases b32Accept_errcode c s with hok | herr
      · simp [hok]
      · exact herr.ne_illegalCmd
  | b32End =>
    cases hx
    split
    next => simp
    next hm => exact hfail hm
    next => simp
  | keyClear => cases hx; split <;> simp
  | keyByte b =>
    cases hx
    split
    · split <;> simp
    · simp
  | timeNow => cases hx; split <;> simp
  | div => cases hx; simp
  | remainNow => cases hx; split <;> simp
  | hmac =>
    cases hx
    split
    · simp
    · split <;> simp
  | trunc => cases hx; split <;> simp
  | genAt => cases hx; split <;> simp [generate]
  | genNow =>
    cases hx
    split
    · simp
    · split <;> simp [generate]

/-- Settles O3: a word with one of the three faults does not decode, and any other one is the execution of a command. -/
theorem illegalWordOnlySetsErrcode : Obligations.IllegalWordOnlySetsErrcode := by
  refine fun s t w h hr hp => ⟨fun hillegal => ?_, fun hop hrsvd himm hs => ?_⟩
  · obtain ⟨e, he⟩ := exists_decode_eq_error_iff.mpr hillegal
    exact ⟨h.step_executes hr hp (execute_error t he), rfl⟩
  · obtain ⟨i, hi⟩ := exists_decode_eq_ok_iff.mpr ⟨hop, hrsvd, himm⟩
    obtain ⟨u, hu⟩ := exec_answers_next i t
    have ht : Invariants t := h.eq_inbox ▸ hs.frame ..
    have hne : u.errcode ≠ .illegalCmd := exec_errcode_ne_illegalCmd ht hu
    exact ⟨_, h.step_executes hr hp ((execute_ok t hi).trans hu), hne⟩

/-! ### The answer of a step -/

/-- Settles O5: every step answers a next state, and the end of an execution step clears PENDING. -/
theorem everyStepAnswersNext : Obligations.EveryStepAnswersNext := by
  intro s
  obtain ⟨t, ht⟩ := step_answers_next s
  refine ⟨t, ht, fun u hu hr hp => ?_⟩
  obtain ⟨w, hw⟩ := Option.ne_none_iff_exists'.mp hp
  obtain ⟨v, hv⟩ := execute_answers_next w u
  cases ht.symm.trans (hu.step_executes hr hw hv)
  rfl

/-! ### A session that meets an invalid byte -/

/-- In `t` all is as in `s` but what a character can write: the decoder's elements, the key buffer and ERRCODE
(41_base32_decoder.md R99, R100). -/
def KeptByChar (s t : State) : Prop :=
  t = { s with
    acc := t.acc, bitcnt := t.bitcnt, b32Mode := t.b32Mode, b32Fail := t.b32Fail, key := t.key, keyLen := t.keyLen,
    errcode := t.errcode }

theorem KeptByChar.trans {s t u : State} (hst : KeptByChar s t) (htu : KeptByChar t u) : KeptByChar s u := by
  rw [KeptByChar] at hst htu ⊢
  rw [htu, hst]

/-- In `s` a session is ACTIVE and `n` symbols have been shifted in since it was opened. Unlike `SessionHolds` it says
nothing of the bits themselves, and so it holds for every ACC_WIDTH. -/
structure SessionCounts (n : Nat) (s : State) : Prop where
  mode   : s.b32Mode = .active
  bitcnt : s.bitcnt.toNat = 5 * n % 8
  keyLen : s.keyLen = 5 * n / 8

/-- B32_START opens a session that has counted nothing, with no valid key (41_base32_decoder.md R98). -/
theorem exec_b32Start_sessionCounts (s : State) :
    ∃ t, exec .b32Start s = .next t ∧ SessionCounts 0 t ∧
      t = { s with
        acc := t.acc, bitcnt := t.bitcnt, b32Mode := t.b32Mode, b32Fail := t.b32Fail, key := t.key, keyLen := t.keyLen,
        keyValid := false, digestValid := t.digestValid, codeValid := t.codeValid, errcode := t.errcode } :=
  ⟨_, rfl, ⟨rfl, rfl, rfl⟩, rfl⟩

namespace SessionCounts

variable {n : Nat} {s : State}

/-- A symbol whose bits fit the buffer is counted. -/
theorem b32Shift (h : SessionCounts n s) (v : BitVec 5) (hroom : 5 * (n + 1) / 8 ≤ s.params.keyMaxBytes) :
    SessionCounts (n + 1) (b32Shift v s) := by
  have hbit := h.bitcnt
  have hlen := h.keyLen
  by_cases h8 : 8 ≤ s.bitcnt.toNat + 5
  · have hcount := (accumulate_emits v h8).1
    rw [b32Shift_of_emits v h8 (by omega)]
    refine ⟨h.mode, (storeAccumulated_accumulate_bitcnt ..).trans (by omega), ?_⟩
    show s.keyLen + 1 = _
    omega
  · have hcount := (accumulate_holds v (Nat.not_le.mp h8)).1
    rw [b32Shift_of_holds v (Nat.not_le.mp h8)]
    refine ⟨h.mode, (storeAccumulated_accumulate_bitcnt ..).trans (by omega), ?_⟩
    show s.keyLen = _
    omega

/-- A symbol counts one, a padding byte nothing (41_base32_decoder.md R96). -/
theorem b32Accept (h : SessionCounts n s) {c : Byte} (hc : c ≠ padByte → isSymbol c = true)
    (hroom : 5 * (n + (symbolValues [c]).length) / 8 ≤ s.params.keyMaxBytes) :
    SessionCounts (n + (symbolValues [c]).length) (b32Accept c s) := by
  by_cases hpad : c = padByte
  · subst hpad
    exact { h with }
  · obtain ⟨-, v, hv⟩ := isSymbol_iff.mp (hc hpad)
    rw [symbolValues_symbol hpad hv] at hroom ⊢
    rw [b32Accept_symbol s hpad hv]
    exact h.b32Shift v hroom

/-- So does a string of them, and the session stays ACTIVE. -/
theorem chars {cs : List Byte} (h : SessionCounts n s) (hcs : ∀ c ∈ cs, c ≠ padByte → isSymbol c = true)
    (hroom : 5 * (n + (symbolValues cs).length) / 8 ≤ s.params.keyMaxBytes) :
    ∃ t, runCommands (cs.map .b32Char) s = .next t ∧ KeptByChar s t ∧ t.b32Mode = .active := by
  induction cs generalizing n s with
  | nil => exact ⟨s, rfl, rfl, h.mode⟩
  | cons c cs ih =>
    have hsplit : (symbolValues (c :: cs)).length = (symbolValues [c]).length + (symbolValues cs).length := by
      rw [← List.length_append, ← symbolValues_append, List.singleton_append]
    have hkept : KeptByChar s (Machine.b32Accept c s) := b32Accept_frame c s
    have hparams : (Machine.b32Accept c s).params = s.params := by rw [hkept]
    have hcount := h.b32Accept (hcs c List.mem_cons_self) (by omega)
    obtain ⟨t, ht, hkept', hm⟩ := ih hcount (fun d hd => hcs d (List.mem_cons_of_mem c hd)) (by rw [hparams]; omega)
    exact ⟨t, (runCommands_cons _ (exec_b32Char_active c h.mode)).trans ht, hkept.trans hkept', hm⟩

end SessionCounts

/-- A session that has failed and reports it absorbs every further character (41_base32_decoder.md R99). -/
theorem runCommands_chars_failed {s : State} (cs : List Byte) (hm : s.b32Mode = .failed) (he : s.errcode = s.b32Fail) :
    runCommands (cs.map .b32Char) s = .next s := by
  have hsame : raiseErr s.b32Fail s = s := by rw [← he]; rfl
  induction cs with
  | nil => rfl
  | cons c cs ih => exact (runCommands_cons _ ((exec_b32Char_failed c hm).trans (congrArg _ hsame))).trans ih

/-- An ACTIVE session that meets an invalid byte has failed by its end, whatever follows (60_exceptions.md R127,
41_base32_decoder.md R100, R101). -/
theorem runCommands_invalid_tail {s : State} {c : Byte} (rest : List Byte) (hm : s.b32Mode = .active)
    (hpad : c ≠ padByte) (hc : isSymbol c = false) :
    runCommands ((c :: rest).map .b32Char ++ [.b32End]) s =
      .next { b32FailWith .invalidCharacter s with b32Mode := .idle } := by
  have hv : b32Value (fold c) = none := by simpa [isSymbol, hpad] using hc
  have hfails : exec (.b32Char c) s = .next (b32FailWith .invalidCharacter s) :=
    (exec_b32Char_active c hm).trans (congrArg _ (b32Accept_invalid s hpad hv))
  have habsorbs := runCommands_chars_failed (s := b32FailWith .invalidCharacter s) rest rfl rfl
  calc
    _ = runCommands (rest.map .b32Char ++ [.b32End]) (b32FailWith .invalidCharacter s) := runCommands_cons _ hfails
    _ = runCommands [.b32End] (b32FailWith .invalidCharacter s) := runCommands_append _ habsorbs
    _ = _ := runCommands_cons [] (exec_b32End_failed rfl)

/-- Settles O19: the session is still ACTIVE at the invalid byte, and what B32_START and the characters before it leave is
a state with no valid key and the old time, counter, digest and OTP. -/
theorem invalidStringLeavesNoKey : Obligations.InvalidStringLeavesNoKey := by
  intro good bad rest s hgood hroom hpad hbad
  obtain ⟨s₀, hstart, hempty, hopened⟩ := exec_b32Start_sessionCounts s
  have hparams : s₀.params = s.params := exec_keeps_params hstart
  obtain ⟨u, hchars, hkept, hm⟩ := hempty.chars hgood (by simpa [hparams] using hroom)
  have hrun : runCommands (b32StrCommands (good ++ bad :: rest)) s =
      .next { b32FailWith .invalidCharacter u with b32Mode := .idle } := calc
    _ = runCommands (.b32Start :: (good.map .b32Char ++ ((bad :: rest).map .b32Char ++ [.b32End]))) s := by
      simp [b32StrCommands]
    _ = runCommands (good.map .b32Char ++ ((bad :: rest).map .b32Char ++ [.b32End])) s₀ := runCommands_cons _ hstart
    _ = runCommands ((bad :: rest).map .b32Char ++ [.b32End]) u := runCommands_append _ hchars
    _ = _ := runCommands_invalid_tail rest hm hpad hbad
  refine ⟨_, hrun, ?_⟩
  rw [hkept, hopened]
  exact ⟨rfl, rfl, rfl, rfl, rfl, rfl, rfl, rfl, rfl, rfl, rfl⟩

end Sys2Proof.Machine
end

section
/-! PROOF. The hardware reset (70_reset_and_hazards.md R143-R145): the level of `rst` through a step, the state while it is
asserted, and what the host reads after a reset. -/

namespace Sys2Proof.Machine

/-! ### The level of `rst`: only an edge on the input moves it -/

theorem attempt_keeps_rstIn {r : BusReq} {s t : State} {resp : BusResp} (h : attempt r s = some (resp, t)) :
    t.rstIn = s.rstIn := by
  rcases attempt_cases h with ⟨_, rfl⟩ | ⟨_, rfl⟩ | ⟨_, rfl⟩ <;> rfl

@[simp] theorem issueAccess_rstIn (r : BusReq) (s : State) : (issueAccess r s).rstIn = s.rstIn := by
  cases hr : s.rstIn with
  | true => rw [issueAccess_in_reset r hr, hr]
  | false =>
    cases ha : attempt r s with
    | none => rw [issueAccess_waits hr ha, hr]
    | some p =>
      rw [issueAccess_done hr ha]
      exact (attempt_keeps_rstIn ha).trans hr

@[simp] theorem completeOutstanding_rstIn (r : BusReq) (s : State) : (completeOutstanding r s).rstIn = s.rstIn := by
  unfold completeOutstanding
  split
  case h_1 => rfl
  case h_2 ha => exact (attempt_keeps_rstIn ha :)

@[simp] theorem abortOutstanding_rstIn (s : State) : (abortOutstanding s).rstIn = s.rstIn := by
  unfold abortOutstanding
  split <;> rfl

/-- The CORE side does not drive `rst`: in reset, with a command pending, and with none. -/
theorem coreSide_keeps_rstIn {s t : State} (h : coreSide s = .next t) : t.rstIn = s.rstIn := by
  cases hr : s.rstIn with
  | true =>
    rw [coreSide_in_reset hr] at h
    cases h
    rw [abortOutstanding_rstIn, hr]
  | false =>
    cases hp : s.pending with
    | some w =>
      obtain ⟨u, hu, rfl⟩ := retire_eq_next (coreSide_pending hr hp ▸ h)
      exact (congrArg State.rstIn (execute_portKept hu)).trans hr
    | none =>
      rw [coreSide_idle hr hp] at h
      cases h
      split <;> simp [hr]

/-! ### While `rst` is asserted -/

/-- No reset value depends on the last response or on the moves still to come. -/
theorem HeldInReset.frame {s : State} (h : HeldInReset s) (resp : Option BusResp) (moves : List Event) :
    HeldInReset { s with busResp := resp, inbox := moves } :=
  fun hr => congrArg (fun u : State => { u with busResp := resp, inbox := moves }) (h hr)

/-- Either level leaves a state held in reset: asserted because every element is reset, released because it demands
nothing (70_reset_and_hazards.md R144). -/
theorem driveRst_heldInReset (b : Bool) (s : State) : HeldInReset (driveRst b s) := by
  intro hr
  cases b with
  | true => rw [driveRst_asserted]; rfl
  | false => exact absurd hr (by simp [driveRst_released])

/-- An access issued in reset gets SLVERR and has no effect (70_reset_and_hazards.md R144). -/
theorem HeldInReset.issueAccess {s : State} (h : HeldInReset s) (r : BusReq) : HeldInReset (issueAccess r s) := by
  intro hr
  rw [issueAccess_rstIn] at hr
  rw [issueAccess_in_reset r hr]
  exact h.frame _ s.inbox hr

/-- In reset the CORE side has nothing to do: nothing is outstanding that it could abort. -/
theorem HeldInReset.coreSide {s t : State} (h : HeldInReset s) (ht : coreSide s = .next t) : HeldInReset t := by
  intro hr
  rw [coreSide_keeps_rstIn ht] at hr
  have hnone : s.outstanding = none := congrArg State.outstanding (h hr)
  have hidle : abortOutstanding s = s := by simp only [abortOutstanding, hnone]
  rw [coreSide_in_reset hr, hidle] at ht
  cases ht
  exact h hr

/-- Settles O59: an edge of `rst`, an access issued, or a turn of the CORE side. -/
theorem stepKeepsHeldInReset : Obligations.StepKeepsHeldInReset := by
  intro s t h ht
  rcases step_cases s with ⟨b, rest, _, hs⟩ | ⟨r, rest, _, _, hs⟩ | ⟨u, hu, hs⟩ <;> rw [hs] at ht
  · cases ht
    exact driveRst_heldInReset b _
  · cases ht
    exact (h.frame s.busResp rest).issueAccess r
  · have hheld : HeldInReset u := by
      rw [hu.eq_inbox]
      exact h.frame s.busResp u.inbox
    exact hheld.coreSide ht

/-- Settles O55: an assertion is `driveRst true`, whose response is the abort of the access that was outstanding. -/
theorem hardwareResetClearsEverything : Obligations.HardwareResetClearsEverything := by
  intro s rest hi
  refine ⟨driveRst true { s with inbox := rest }, step_rst hi, ?_⟩
  rw [driveRst_asserted]
  exact ⟨rfl, fun ho => by simp only [ho], fun a n ho => by simp only [ho, slverrFor],
    fun a n v ho => by simp only [ho, slverrFor]⟩

/-- An access first in the inbox while `rst` is asserted: its bus error is all that is left of it. -/
theorem step_access_in_reset {s : State} {r : BusReq} {rest : List Event} (hr : s.rstIn = true)
    (ho : s.outstanding = none) (hi : s.inbox = .access r :: rest) :
    step s = .next { s with inbox := rest, busResp := some (slverrFor r) } :=
  (step_access hi ho).trans (congrArg _ (issueAccess_in_reset (s := { s with inbox := rest }) r hr))

/-- Settles O56: a read and a write in reset, and the release of `rst`. -/
theorem accessInResetGetsSlverr : Obligations.AccessInResetGetsSlverr :=
  ⟨fun _ _ _ _ => step_access_in_reset, fun _ _ _ _ _ => step_access_in_reset,
    fun s rest hi => (step_rst hi).trans (congrArg _ (driveRst_released { s with inbox := rest }))⟩

/-! ### What the host reads after a reset -/

theorem regOff_of_fixedReg :
    ∀ off, off < 0x100 → off % 4 = 0 → (fixedReg off).all (fun r => regOff r == off) = true := by
  decide +kernel

/-- The map names each register at its own offset (20_memory.md R73). -/
theorem regOff_of_regAt {p : Config.Params} {off : Nat} {r : Reg} (ha : off % 4 = 0) (h : regAt p off = some r) :
    regOff r = off := by
  by_cases hfixed : off < 0x100
  · rw [regAt_fixed p hfixed] at h
    simpa [h] using regOff_of_fixedReg off hfixed ha
  · by_cases hwindow : off < 0x100 + p.keyMaxBytes
    · cases (regAt_window (Nat.not_lt.mp hfixed) hwindow).symm.trans h
      simp only [regOff]
      omega
    · cases (regAt_beyond (Nat.not_lt.mp hwindow)).symm.trans h

/-- A byte array of zeros reads as zero words (20_memory.md R68). -/
theorem lanesWord_replicate_zero (n k : Nat) : lanesWord (List.replicate n 0) k = 0 := by
  have hbyte (i : Nat) : (List.replicate n (0 : Byte)).getD i 0 = 0 := by simp [List.getD]
  simp only [lanesWord, hbyte]
  rfl

/-- No session, no failure and no bits held (10_state.md R49, R61). -/
theorem b32StateWord_resetOf (p : Config.Params) : b32StateWord (State.resetOf p) = 0 := calc
  _ = 0#12 ++ ErrCode.ok.code ++ 0#1 ++ BitVec.ofNat 7 (0 % 2 ^ 0) ++ 0#4 ++ 0#4 := rfl
  _ = 0 := by decide

/-- From CMD on, every register is 0 after reset (70_reset_and_hazards.md R145). -/
theorem regValue_resetOf_eq_zero (p : Config.Params) {r : Reg} (h : 0x010 ≤ regOff r) :
    regValue (State.resetOf p) r = 0 := by
  cases r with
  | id | cfgTimeStep | cfgDigits | cfgKeyMax => exact absurd h (by decide)
  | status => exact statusExact_resetElements (State.resetOf p)
  | b32State => exact b32StateWord_resetOf p
  | timeHi | counterHi => exact (by decide : hiWord 0 = 0)
  | codeStr k => exact lanesWord_replicate_zero 12 k
  | digest k => exact lanesWord_replicate_zero 20 k
  | cmd | keyLen | timeLo | counterLo | remaining | offset | code32 | otp | key k => rfl

/-- What a register holds after reset, told by its offset: a legal parameter fits into its word. -/
theorem regValue_resetOf {p : Config.Params} (hp : p.legal = true) (r : Reg) :
    (regValue (State.resetOf p) r).toNat =
      if regOff r = 0x000 then 0x50544F54 else if regOff r = 0x004 then p.timeStep
      else if regOff r = 0x008 then p.digits else if regOff r = 0x00C then p.keyMaxBytes else 0 := by
  have hstep := timeStep_lt_of_legal hp
  obtain ⟨-, -, -, hdigits, -, -, hkey, -⟩ := of_decide_eq_true hp
  by_cases h : 0x010 ≤ regOff r
  · rw [regValue_resetOf_eq_zero p h, if_neg (by omega), if_neg (by omega), if_neg (by omega), if_neg (by omega)]
    rfl
  · cases r with
    | id => rfl
    | cfgTimeStep => exact Nat.mod_eq_of_lt hstep
    | cfgDigits => exact Nat.mod_eq_of_lt (show p.digits < 2 ^ 32 by omega)
    | cfgKeyMax => exact Nat.mod_eq_of_lt (show p.keyMaxBytes < 2 ^ 32 by omega)
    | codeStr k | digest k | key k =>
      simp only [regOff] at h
      omega
    | _ => exact absurd (by decide) h

/-- Settles O54: the offset names its register, and that register reads its value after reset. -/
theorem resetReadsAsSpecified : Obligations.ResetReadsAsSpecified := by
  intro p a r hp hr
  obtain ⟨-, halign, hreg, -⟩ := readableReg_some hr
  rw [regValue_resetOf hp r, regOff_of_regAt halign hreg]
  simp [BitVec.toNat_eq]

end Sys2Proof.Machine
end
